-- ==== Sys2Proof/Word.lean ====
section
/-!
DEFINITION. The values the block handles: bitmasks, command words and axis masks.
Bit 0 is the least significant bit of every one of them (00_scope.md R6).
-/

namespace Sys2Proof

/-- A 16-bit bitmask: a raw value, a normalized value, a key, an operand or a result
(00_scope.md section 4, 30_encoding.md R43, R46). -/
abbrev Bitmask := BitVec 16

/-- A 24-bit command word (30_encoding.md R40). -/
abbrev CommandWord := BitVec 24

/-- The 4-bit D-pad sub-bitmask: bit 0 Right, 1 Left, 2 Up, 3 Down (10_state.md R15). -/
abbrev AxisMask := BitVec 4

end Sys2Proof
end

