-- ==== Sys2Proof/Machine/Flags.lean ====
section
/-!
DEFINITION. How outcomes are returned. The block has no condition flags (10_state.md R22): a boolean
or an axis value is returned in the 16-bit result (30_encoding.md R46).
-/

namespace Sys2Proof.Machine

/-- `bool(c)`: `0x0001` for true, `0x0000` for false (00_scope.md section 5, 30_encoding.md R46). -/
def boolResult (c : Bool) : Bitmask := if c then 0x0001 else 0x0000

/-- An axis value returned as `sext_16` of its 2-bit two's complement form (41_snapshot.md R92,
30_encoding.md R46). -/
def axisResult (a : Int) : Bitmask := (BitVec.ofInt 2 a).signExtend 16

end Sys2Proof.Machine
end

