-- ==== Sys2Proof/Config.lean ====
section
/-!
DEFINITION. The one elaboration parameter of the block, CELL_N, and the widths derived from it
(00_scope.md R4, R5). CELL_N is open in the spec (92_eei_decisions.md D9); the state carries it, so
that every statement about all states holds for all fifteen values.
-/

namespace Sys2Proof

/-- `CELL_N` with the check the spec asks for: a value outside 1..15 cannot be written down, as a
block with such a width "does not exist" (00_scope.md R4, 43_packedbitcell.md R120). -/
structure CellN where
  val : Nat
  pos : 1 ≤ val
  le : val ≤ 15
deriving DecidableEq, Repr

/-- Building from a number: refused outside 1..15, never clamped (00_scope.md R4). -/
def CellN.ofNat? (n : Nat) : Option CellN :=
  if h : 1 ≤ n ∧ n ≤ 15 then some ⟨n, h.1, h.2⟩ else none

/-- `CELL_W`, the rounded width: the smallest power of two that is at least `CELL_N`
(00_scope.md R5). -/
def CellN.width (n : CellN) : Nat :=
  if n.val ≤ 1 then 1
  else if n.val ≤ 2 then 2
  else if n.val ≤ 4 then 4
  else if n.val ≤ 8 then 8
  else 16

/-- `CELL_P`, the number of padding bits (00_scope.md R5). -/
def CellN.padding (n : CellN) : Nat := n.width - n.val

/-- The `CELL_N` of the block that `State.reset` starts. DESIGN CHOICE 3, the width the spec's test
vectors use unless they say otherwise (95_test_vectors.md); unsafe, log entry 1. No statement rests
on it: `State.resetFor` gives the reset state of every `CELL_N`. -/
def Config.cellN : CellN := ⟨3, by decide, by decide⟩

end Sys2Proof
end

