-- ==== Sys2Proof/Syntax.lean ====
section
/-!
DEFINITION. The command set: one constructor per row of spec/opcode_table.json, in the table's order
(30_encoding.md R45). An operand is named as the rule names it: `raw` a raw value, `b` a normalized
bitmask, `k` a key, `t` a truth value, `y` an unsigned operand of the cell.
-/

namespace Sys2Proof

/-- The 43 commands of the block (30_encoding.md R45, R49). -/
inductive Instr where
  /-- `NORM`, 0x00, format V (40_rawinput.md R60). -/
  | norm (raw : Bitmask)
  /-- `SNAP.A`, 0x10, format V (41_snapshot.md R67). -/
  | snapA (b : Bitmask)
  /-- `SNAP.B`, 0x11, format V (41_snapshot.md R68). -/
  | snapB (b : Bitmask)
  /-- `SNAP.SELECT`, 0x12, format V (41_snapshot.md R69). -/
  | snapSelect (b : Bitmask)
  /-- `SNAP.START`, 0x13, format V (41_snapshot.md R70). -/
  | snapStart (b : Bitmask)
  /-- `SNAP.RIGHT`, 0x14, format V (41_snapshot.md R71). -/
  | snapRight (b : Bitmask)
  /-- `SNAP.LEFT`, 0x15, format V (41_snapshot.md R72). -/
  | snapLeft (b : Bitmask)
  /-- `SNAP.UP`, 0x16, format V (41_snapshot.md R73). -/
  | snapUp (b : Bitmask)
  /-- `SNAP.DOWN`, 0x17, format V (41_snapshot.md R74). -/
  | snapDown (b : Bitmask)
  /-- `SNAP.R`, 0x18, format V (41_snapshot.md R75). -/
  | snapR (b : Bitmask)
  /-- `SNAP.L`, 0x19, format V (41_snapshot.md R76). -/
  | snapL (b : Bitmask)
  /-- `SNAP.AXISX`, 0x1A, format V (41_snapshot.md R77). -/
  | snapAxisx (b : Bitmask)
  /-- `SNAP.AXISY`, 0x1B, format V (41_snapshot.md R78). -/
  | snapAxisy (b : Bitmask)
  /-- `SNAPR.A`, 0x20, format V (41_snapshot.md R80). -/
  | snaprA (raw : Bitmask)
  /-- `SNAPR.B`, 0x21, format V (41_snapshot.md R81). -/
  | snaprB (raw : Bitmask)
  /-- `SNAPR.SELECT`, 0x22, format V (41_snapshot.md R82). -/
  | snaprSelect (raw : Bitmask)
  /-- `SNAPR.START`, 0x23, format V (41_snapshot.md R83). -/
  | snaprStart (raw : Bitmask)
  /-- `SNAPR.RIGHT`, 0x24, format V (41_snapshot.md R84). -/
  | snaprRight (raw : Bitmask)
  /-- `SNAPR.LEFT`, 0x25, format V (41_snapshot.md R85). -/
  | snaprLeft (raw : Bitmask)
  /-- `SNAPR.UP`, 0x26, format V (41_snapshot.md R86). -/
  | snaprUp (raw : Bitmask)
  /-- `SNAPR.DOWN`, 0x27, format V (41_snapshot.md R87). -/
  | snaprDown (raw : Bitmask)
  /-- `SNAPR.R`, 0x28, format V (41_snapshot.md R88). -/
  | snaprR (raw : Bitmask)
  /-- `SNAPR.L`, 0x29, format V (41_snapshot.md R89). -/
  | snaprL (raw : Bitmask)
  /-- `SNAPR.AXISX`, 0x2A, format V (41_snapshot.md R90). -/
  | snaprAxisx (raw : Bitmask)
  /-- `SNAPR.AXISY`, 0x2B, format V (41_snapshot.md R91). -/
  | snaprAxisy (raw : Bitmask)
  /-- `TRK.UPDATE`, 0x30, format V (42_eventtracker.md R101). -/
  | trkUpdate (raw : Bitmask)
  /-- `TRK.PRESSED`, 0x31, format V (42_eventtracker.md R102). -/
  | trkPressed (k : Bitmask)
  /-- `TRK.RELEASED`, 0x32, format V (42_eventtracker.md R103). -/
  | trkReleased (k : Bitmask)
  /-- `TRK.DOWN`, 0x33, format V (42_eventtracker.md R104). -/
  | trkDown (k : Bitmask)
  /-- `TRK.UP`, 0x34, format V (42_eventtracker.md R105). -/
  | trkUp (k : Bitmask)
  /-- `TRK.AXCHG`, 0x35, format Z (42_eventtracker.md R106). -/
  | trkAxchg
  /-- `CELL.SETB`, 0x40, format B (43_packedbitcell.md R123). -/
  | cellSetb (t : Bool)
  /-- `CELL.GET`, 0x41, format Z (43_packedbitcell.md R124). -/
  | cellGet
  /-- `CELL.ADD`, 0x42, format C (43_packedbitcell.md R125). -/
  | cellAdd (y : Bitmask)
  /-- `CELL.SUB`, 0x43, format C (43_packedbitcell.md R126). -/
  | cellSub (y : Bitmask)
  /-- `CELL.MUL`, 0x44, format C (43_packedbitcell.md R127). -/
  | cellMul (y : Bitmask)
  /-- `CELL.DIV`, 0x45, format C (43_packedbitcell.md R128). -/
  | cellDiv (y : Bitmask)
  /-- `CELL.MOD`, 0x46, format C (43_packedbitcell.md R129). -/
  | cellMod (y : Bitmask)
  /-- `CELL.SHL`, 0x47, format C (43_packedbitcell.md R130). -/
  | cellShl (y : Bitmask)
  /-- `CELL.SHR`, 0x48, format C (43_packedbitcell.md R131). -/
  | cellShr (y : Bitmask)
  /-- `CELL.AND`, 0x49, format C (43_packedbitcell.md R132). -/
  | cellAnd (y : Bitmask)
  /-- `CELL.OR`, 0x4A, format C (43_packedbitcell.md R133). -/
  | cellOr (y : Bitmask)
  /-- `CELL.XOR`, 0x4B, format C (43_packedbitcell.md R134). -/
  | cellXor (y : Bitmask)
deriving DecidableEq, Repr

/-- The four operand formats (30_encoding.md R42). -/
inductive Format where
  /-- `imm` is a bitmask, every value legal. -/
  | v
  /-- `imm` is unused and must be 0. -/
  | z
  /-- `imm[0]` is a truth value, `imm[15:1]` must be 0. -/
  | b
  /-- `imm` is an unsigned operand below `2^CELL_W`. -/
  | c
deriving DecidableEq, Repr

end Sys2Proof
end

