-- ==== Sys2Proof/WellFormed.lean ====
section
/-!
DEFINITION. When a command is legal for a block of a given `CELL_N` (30_encoding.md R42, R47 step 3):
the operand of each of the ten CELL arithmetic commands is below `2^CELL_W`. The other formats are
well formed by their types: format V takes any bitmask, format Z has no operand, format B has one
truth value.
-/

namespace Sys2Proof

/-- Format C: the operand is below `2^CELL_W` (30_encoding.md R42). -/
def operandFits (n : CellN) (y : Bitmask) : Bool := decide (y.toNat < 2 ^ n.width)

/-- Legality of a command in a block of the given `CELL_N` (30_encoding.md R47). -/
def Instr.wellFormed (n : CellN) : Instr → Bool
  | .norm _ => true
  | .snapA _ => true
  | .snapB _ => true
  | .snapSelect _ => true
  | .snapStart _ => true
  | .snapRight _ => true
  | .snapLeft _ => true
  | .snapUp _ => true
  | .snapDown _ => true
  | .snapR _ => true
  | .snapL _ => true
  | .snapAxisx _ => true
  | .snapAxisy _ => true
  | .snaprA _ => true
  | .snaprB _ => true
  | .snaprSelect _ => true
  | .snaprStart _ => true
  | .snaprRight _ => true
  | .snaprLeft _ => true
  | .snaprUp _ => true
  | .snaprDown _ => true
  | .snaprR _ => true
  | .snaprL _ => true
  | .snaprAxisx _ => true
  | .snaprAxisy _ => true
  | .trkUpdate _ => true
  | .trkPressed _ => true
  | .trkReleased _ => true
  | .trkDown _ => true
  | .trkUp _ => true
  | .trkAxchg => true
  | .cellSetb _ => true
  | .cellGet => true
  | .cellAdd y => operandFits n y
  | .cellSub y => operandFits n y
  | .cellMul y => operandFits n y
  | .cellDiv y => operandFits n y
  | .cellMod y => operandFits n y
  | .cellShl y => operandFits n y
  | .cellShr y => operandFits n y
  | .cellAnd y => operandFits n y
  | .cellOr y => operandFits n y
  | .cellXor y => operandFits n y

end Sys2Proof
end

