-- ==== Sys2Proof/Decode.lean ====
section
/-!
DEFINITION. The command encoding (30_encoding.md R40 to R47): the fields of a word, the decoder, the
encoder, and the opcode table of R45 as data. Decoding is total and rejects every reserved word.
-/

namespace Sys2Proof

/-- `cmd[23:20]`, which unit executes the command (30_encoding.md R41). -/
def CommandWord.unit (w : CommandWord) : BitVec 4 := w.extractLsb' 20 4

/-- `cmd[19:16]`, which operation of the unit (30_encoding.md R41). -/
def CommandWord.fn (w : CommandWord) : BitVec 4 := w.extractLsb' 16 4

/-- `cmd[15:0]`, the operand (30_encoding.md R41). -/
def CommandWord.imm (w : CommandWord) : Bitmask := w.extractLsb' 0 16

/-- The word with the given unit, function and operand (30_encoding.md R41):
`unit * 2^20 + fn * 2^16 + imm`. -/
def CommandWord.ofFields (unit fn : BitVec 4) (imm : Bitmask) : CommandWord := unit ++ fn ++ imm

/-- Format Z: the command is selected only with `imm = 0` (30_encoding.md R47 step 2). -/
def decodeZ (imm : Bitmask) (i : Instr) : Option Instr := if imm = 0 then some i else none

/-- Format B: the truth value is `imm[0]`, and `imm[15:1]` must be 0 (30_encoding.md R43, R47 step 2). -/
def decodeB (imm : Bitmask) (i : Bool → Instr) : Option Instr :=
  if imm.toNat ≤ 1 then some (i (imm.getLsbD 0)) else none

/-- The function codes of unit 0x0, RAW (30_encoding.md R45). -/
def decodeRaw (fn : Nat) (imm : Bitmask) : Option Instr :=
  match fn with
  | 0x0 => some (.norm imm)
  | _ => none

/-- The function codes of unit 0x1, SNAP (30_encoding.md R45). -/
def decodeSnap (fn : Nat) (imm : Bitmask) : Option Instr :=
  match fn with
  | 0x0 => some (.snapA imm)
  | 0x1 => some (.snapB imm)
  | 0x2 => some (.snapSelect imm)
  | 0x3 => some (.snapStart imm)
  | 0x4 => some (.snapRight imm)
  | 0x5 => some (.snapLeft imm)
  | 0x6 => some (.snapUp imm)
  | 0x7 => some (.snapDown imm)
  | 0x8 => some (.snapR imm)
  | 0x9 => some (.snapL imm)
  | 0xA => some (.snapAxisx imm)
  | 0xB => some (.snapAxisy imm)
  | _ => none

/-- The function codes of unit 0x2, SNAPR (30_encoding.md R45). -/
def decodeSnapr (fn : Nat) (imm : Bitmask) : Option Instr :=
  match fn with
  | 0x0 => some (.snaprA imm)
  | 0x1 => some (.snaprB imm)
  | 0x2 => some (.snaprSelect imm)
  | 0x3 => some (.snaprStart imm)
  | 0x4 => some (.snaprRight imm)
  | 0x5 => some (.snaprLeft imm)
  | 0x6 => some (.snaprUp imm)
  | 0x7 => some (.snaprDown imm)
  | 0x8 => some (.snaprR imm)
  | 0x9 => some (.snaprL imm)
  | 0xA => some (.snaprAxisx imm)
  | 0xB => some (.snaprAxisy imm)
  | _ => none

/-- The function codes of unit 0x3, TRK (30_encoding.md R45). -/
def decodeTrk (fn : Nat) (imm : Bitmask) : Option Instr :=
  match fn with
  | 0x0 => some (.trkUpdate imm)
  | 0x1 => some (.trkPressed imm)
  | 0x2 => some (.trkReleased imm)
  | 0x3 => some (.trkDown imm)
  | 0x4 => some (.trkUp imm)
  | 0x5 => decodeZ imm .trkAxchg
  | _ => none

/-- The function codes of unit 0x4, CELL (30_encoding.md R45). -/
def decodeCell (fn : Nat) (imm : Bitmask) : Option Instr :=
  match fn with
  | 0x0 => decodeB imm .cellSetb
  | 0x1 => decodeZ imm .cellGet
  | 0x2 => some (.cellAdd imm)
  | 0x3 => some (.cellSub imm)
  | 0x4 => some (.cellMul imm)
  | 0x5 => some (.cellDiv imm)
  | 0x6 => some (.cellMod imm)
  | 0x7 => some (.cellShl imm)
  | 0x8 => some (.cellShr imm)
  | 0x9 => some (.cellAnd imm)
  | 0xA => some (.cellOr imm)
  | 0xB => some (.cellXor imm)
  | _ => none

/-- Steps 1 and 2 of decoding (30_encoding.md R47): the unit and function select a row of the table,
and a format Z or B operand is checked. -/
def decodeFields (unit fn : Nat) (imm : Bitmask) : Option Instr :=
  match unit with
  | 0x0 => decodeRaw fn imm
  | 0x1 => decodeSnap fn imm
  | 0x2 => decodeSnapr fn imm
  | 0x3 => decodeTrk fn imm
  | 0x4 => decodeCell fn imm
  | _ => none

/-- Decoding in a block of the given `CELL_N` (30_encoding.md R47): exactly one command, or none for
an illegal word. Step 3, the check of a format C operand, is `wellFormed`. -/
def decode (n : CellN) (w : CommandWord) : Option Instr :=
  (decodeFields w.unit.toNat w.fn.toNat w.imm).filter (Instr.wellFormed n)

/-- A command's unit code (30_encoding.md R44). -/
def Instr.unit : Instr → BitVec 4
  | .norm _ => 0x0
  | .snapA _ => 0x1
  | .snapB _ => 0x1
  | .snapSelect _ => 0x1
  | .snapStart _ => 0x1
  | .snapRight _ => 0x1
  | .snapLeft _ => 0x1
  | .snapUp _ => 0x1
  | .snapDown _ => 0x1
  | .snapR _ => 0x1
  | .snapL _ => 0x1
  | .snapAxisx _ => 0x1
  | .snapAxisy _ => 0x1
  | .snaprA _ => 0x2
  | .snaprB _ => 0x2
  | .snaprSelect _ => 0x2
  | .snaprStart _ => 0x2
  | .snaprRight _ => 0x2
  | .snaprLeft _ => 0x2
  | .snaprUp _ => 0x2
  | .snaprDown _ => 0x2
  | .snaprR _ => 0x2
  | .snaprL _ => 0x2
  | .snaprAxisx _ => 0x2
  | .snaprAxisy _ => 0x2
  | .trkUpdate _ => 0x3
  | .trkPressed _ => 0x3
  | .trkReleased _ => 0x3
  | .trkDown _ => 0x3
  | .trkUp _ => 0x3
  | .trkAxchg => 0x3
  | .cellSetb _ => 0x4
  | .cellGet => 0x4
  | .cellAdd _ => 0x4
  | .cellSub _ => 0x4
  | .cellMul _ => 0x4
  | .cellDiv _ => 0x4
  | .cellMod _ => 0x4
  | .cellShl _ => 0x4
  | .cellShr _ => 0x4
  | .cellAnd _ => 0x4
  | .cellOr _ => 0x4
  | .cellXor _ => 0x4

/-- A command's function code (30_encoding.md R45). -/
def Instr.fn : Instr → BitVec 4
  | .norm _ => 0x0
  | .snapA _ => 0x0
  | .snapB _ => 0x1
  | .snapSelect _ => 0x2
  | .snapStart _ => 0x3
  | .snapRight _ => 0x4
  | .snapLeft _ => 0x5
  | .snapUp _ => 0x6
  | .snapDown _ => 0x7
  | .snapR _ => 0x8
  | .snapL _ => 0x9
  | .snapAxisx _ => 0xA
  | .snapAxisy _ => 0xB
  | .snaprA _ => 0x0
  | .snaprB _ => 0x1
  | .snaprSelect _ => 0x2
  | .snaprStart _ => 0x3
  | .snaprRight _ => 0x4
  | .snaprLeft _ => 0x5
  | .snaprUp _ => 0x6
  | .snaprDown _ => 0x7
  | .snaprR _ => 0x8
  | .snaprL _ => 0x9
  | .snaprAxisx _ => 0xA
  | .snaprAxisy _ => 0xB
  | .trkUpdate _ => 0x0
  | .trkPressed _ => 0x1
  | .trkReleased _ => 0x2
  | .trkDown _ => 0x3
  | .trkUp _ => 0x4
  | .trkAxchg => 0x5
  | .cellSetb _ => 0x0
  | .cellGet => 0x1
  | .cellAdd _ => 0x2
  | .cellSub _ => 0x3
  | .cellMul _ => 0x4
  | .cellDiv _ => 0x5
  | .cellMod _ => 0x6
  | .cellShl _ => 0x7
  | .cellShr _ => 0x8
  | .cellAnd _ => 0x9
  | .cellOr _ => 0xA
  | .cellXor _ => 0xB

/-- A command's operand field (30_encoding.md R42, R43). -/
def Instr.imm : Instr → Bitmask
  | .norm raw => raw
  | .snapA b => b
  | .snapB b => b
  | .snapSelect b => b
  | .snapStart b => b
  | .snapRight b => b
  | .snapLeft b => b
  | .snapUp b => b
  | .snapDown b => b
  | .snapR b => b
  | .snapL b => b
  | .snapAxisx b => b
  | .snapAxisy b => b
  | .snaprA raw => raw
  | .snaprB raw => raw
  | .snaprSelect raw => raw
  | .snaprStart raw => raw
  | .snaprRight raw => raw
  | .snaprLeft raw => raw
  | .snaprUp raw => raw
  | .snaprDown raw => raw
  | .snaprR raw => raw
  | .snaprL raw => raw
  | .snaprAxisx raw => raw
  | .snaprAxisy raw => raw
  | .trkUpdate raw => raw
  | .trkPressed k => k
  | .trkReleased k => k
  | .trkDown k => k
  | .trkUp k => k
  | .trkAxchg => 0
  | .cellSetb t => if t then 1 else 0
  | .cellGet => 0
  | .cellAdd y => y
  | .cellSub y => y
  | .cellMul y => y
  | .cellDiv y => y
  | .cellMod y => y
  | .cellShl y => y
  | .cellShr y => y
  | .cellAnd y => y
  | .cellOr y => y
  | .cellXor y => y

/-- The word of a command (30_encoding.md R41, R45). -/
def encode (i : Instr) : CommandWord := CommandWord.ofFields i.unit i.fn i.imm

/-- A command's mnemonic, as spec/opcode_table.json spells it. -/
def Instr.mnemonic : Instr → String
  | .norm _ => "NORM"
  | .snapA _ => "SNAP.A"
  | .snapB _ => "SNAP.B"
  | .snapSelect _ => "SNAP.SELECT"
  | .snapStart _ => "SNAP.START"
  | .snapRight _ => "SNAP.RIGHT"
  | .snapLeft _ => "SNAP.LEFT"
  | .snapUp _ => "SNAP.UP"
  | .snapDown _ => "SNAP.DOWN"
  | .snapR _ => "SNAP.R"
  | .snapL _ => "SNAP.L"
  | .snapAxisx _ => "SNAP.AXISX"
  | .snapAxisy _ => "SNAP.AXISY"
  | .snaprA _ => "SNAPR.A"
  | .snaprB _ => "SNAPR.B"
  | .snaprSelect _ => "SNAPR.SELECT"
  | .snaprStart _ => "SNAPR.START"
  | .snaprRight _ => "SNAPR.RIGHT"
  | .snaprLeft _ => "SNAPR.LEFT"
  | .snaprUp _ => "SNAPR.UP"
  | .snaprDown _ => "SNAPR.DOWN"
  | .snaprR _ => "SNAPR.R"
  | .snaprL _ => "SNAPR.L"
  | .snaprAxisx _ => "SNAPR.AXISX"
  | .snaprAxisy _ => "SNAPR.AXISY"
  | .trkUpdate _ => "TRK.UPDATE"
  | .trkPressed _ => "TRK.PRESSED"
  | .trkReleased _ => "TRK.RELEASED"
  | .trkDown _ => "TRK.DOWN"
  | .trkUp _ => "TRK.UP"
  | .trkAxchg => "TRK.AXCHG"
  | .cellSetb _ => "CELL.SETB"
  | .cellGet => "CELL.GET"
  | .cellAdd _ => "CELL.ADD"
  | .cellSub _ => "CELL.SUB"
  | .cellMul _ => "CELL.MUL"
  | .cellDiv _ => "CELL.DIV"
  | .cellMod _ => "CELL.MOD"
  | .cellShl _ => "CELL.SHL"
  | .cellShr _ => "CELL.SHR"
  | .cellAnd _ => "CELL.AND"
  | .cellOr _ => "CELL.OR"
  | .cellXor _ => "CELL.XOR"

/-- One row of the opcode table (30_encoding.md R45): a word `w` selects it when
`w &&& mask = bits`. -/
structure Row where
  mnemonic : String
  format : Format
  bits : CommandWord
  mask : CommandWord
deriving DecidableEq, Repr

/-- The rows of unit RAW (30_encoding.md R45). -/
def rowsRaw : List Row := [
  ⟨"NORM", .v, 0x000000, 0xFF0000⟩]

/-- The rows of unit SNAP (30_encoding.md R45). -/
def rowsSnap : List Row := [
  ⟨"SNAP.A", .v, 0x100000, 0xFF0000⟩,
  ⟨"SNAP.B", .v, 0x110000, 0xFF0000⟩,
  ⟨"SNAP.SELECT", .v, 0x120000, 0xFF0000⟩,
  ⟨"SNAP.START", .v, 0x130000, 0xFF0000⟩,
  ⟨"SNAP.RIGHT", .v, 0x140000, 0xFF0000⟩,
  ⟨"SNAP.LEFT", .v, 0x150000, 0xFF0000⟩,
  ⟨"SNAP.UP", .v, 0x160000, 0xFF0000⟩,
  ⟨"SNAP.DOWN", .v, 0x170000, 0xFF0000⟩,
  ⟨"SNAP.R", .v, 0x180000, 0xFF0000⟩,
  ⟨"SNAP.L", .v, 0x190000, 0xFF0000⟩,
  ⟨"SNAP.AXISX", .v, 0x1A0000, 0xFF0000⟩,
  ⟨"SNAP.AXISY", .v, 0x1B0000, 0xFF0000⟩]

/-- The rows of unit SNAPR (30_encoding.md R45). -/
def rowsSnapr : List Row := [
  ⟨"SNAPR.A", .v, 0x200000, 0xFF0000⟩,
  ⟨"SNAPR.B", .v, 0x210000, 0xFF0000⟩,
  ⟨"SNAPR.SELECT", .v, 0x220000, 0xFF0000⟩,
  ⟨"SNAPR.START", .v, 0x230000, 0xFF0000⟩,
  ⟨"SNAPR.RIGHT", .v, 0x240000, 0xFF0000⟩,
  ⟨"SNAPR.LEFT", .v, 0x250000, 0xFF0000⟩,
  ⟨"SNAPR.UP", .v, 0x260000, 0xFF0000⟩,
  ⟨"SNAPR.DOWN", .v, 0x270000, 0xFF0000⟩,
  ⟨"SNAPR.R", .v, 0x280000, 0xFF0000⟩,
  ⟨"SNAPR.L", .v, 0x290000, 0xFF0000⟩,
  ⟨"SNAPR.AXISX", .v, 0x2A0000, 0xFF0000⟩,
  ⟨"SNAPR.AXISY", .v, 0x2B0000, 0xFF0000⟩]

/-- The rows of unit TRK (30_encoding.md R45). -/
def rowsTrk : List Row := [
  ⟨"TRK.UPDATE", .v, 0x300000, 0xFF0000⟩,
  ⟨"TRK.PRESSED", .v, 0x310000, 0xFF0000⟩,
  ⟨"TRK.RELEASED", .v, 0x320000, 0xFF0000⟩,
  ⟨"TRK.DOWN", .v, 0x330000, 0xFF0000⟩,
  ⟨"TRK.UP", .v, 0x340000, 0xFF0000⟩,
  ⟨"TRK.AXCHG", .z, 0x350000, 0xFFFFFF⟩]

/-- The rows of unit CELL (30_encoding.md R45). -/
def rowsCell : List Row := [
  ⟨"CELL.SETB", .b, 0x400000, 0xFFFFFE⟩,
  ⟨"CELL.GET", .z, 0x410000, 0xFFFFFF⟩,
  ⟨"CELL.ADD", .c, 0x420000, 0xFF0000⟩,
  ⟨"CELL.SUB", .c, 0x430000, 0xFF0000⟩,
  ⟨"CELL.MUL", .c, 0x440000, 0xFF0000⟩,
  ⟨"CELL.DIV", .c, 0x450000, 0xFF0000⟩,
  ⟨"CELL.MOD", .c, 0x460000, 0xFF0000⟩,
  ⟨"CELL.SHL", .c, 0x470000, 0xFF0000⟩,
  ⟨"CELL.SHR", .c, 0x480000, 0xFF0000⟩,
  ⟨"CELL.AND", .c, 0x490000, 0xFF0000⟩,
  ⟨"CELL.OR", .c, 0x4A0000, 0xFF0000⟩,
  ⟨"CELL.XOR", .c, 0x4B0000, 0xFF0000⟩]

/-- The opcode table of 30_encoding.md R45, all 43 rows. -/
def opcodeTable : List Row := rowsRaw ++ rowsSnap ++ rowsSnapr ++ rowsTrk ++ rowsCell

/-- The command read from a word given as a number, bit 0 its least significant bit. Every command is
one 24-bit word, so nothing lies above `nbits = 24`; the block is the one `State.reset` starts
(`CELL_N` of log entry 1). -/
def decodeTableWord (nbits w : Nat) : Option Instr :=
  decode Config.cellN (BitVec.ofNat 24 (w % 2 ^ nbits))

end Sys2Proof
end

