-- ==== Sys2Proof/Machine/State.lean ====
section
/-!
DEFINITION. The state of the block, every register the spec gives it (10_state.md section 1), the
build parameter it was built with, and what the host will still do at its ports. Plain data.
-/

namespace Sys2Proof.Machine

/-- The content of the 2-bit register FAULT, by name (10_state.md R18, 60_exceptions.md R151). -/
inductive FaultCode where
  /-- Code 0: no fault has been taken since reset. -/
  | noFault
  /-- Code 1: IllegalCommand, raised by decode (60_exceptions.md R154). -/
  | illegalCommand
  /-- Code 2: CellUnwritten, raised by CELL.GET and the ten arithmetic commands (60_exceptions.md R155). -/
  | cellUnwritten
  /-- Code 3: CellDivideByZero, raised by CELL.DIV and CELL.MOD (60_exceptions.md R156). -/
  | cellDivideByZero
deriving DecidableEq, Repr

/-- The code of FAULT as the port `fault_q[1:0]` shows it (60_exceptions.md R151). -/
def FaultCode.code : FaultCode → BitVec 2
  | .noFault => 0
  | .illegalCommand => 1
  | .cellUnwritten => 2
  | .cellDivideByZero => 3

/-- What the host does at the block's input ports: it presents a command word (`cmd_valid`,
`cmd[23:0]`) or asserts reset (`rst`) (10_state.md R25, 70_reset_and_hazards.md R171). -/
inductive HostAction where
  | command (w : CommandWord)
  | reset
deriving DecidableEq, Repr

/-- The state of the block. Two fields are no registers of the spec: `cellN` is its build parameter
(log entry 1) and `host` is the outside world (log entry 2); `res` is the result port, which the spec
lists as an output (log entry 3). -/
structure State where
  /-- `CELL_N`, fixed when the block is built; no step changes it (00_scope.md R4). -/
  cellN : CellN
  /-- CURRENT: the normalized bitmask of the lines now pressed (10_state.md R13). -/
  current : Bitmask
  /-- DIFF: the lines that changed on the latest update (10_state.md R14). -/
  diff : Bitmask
  /-- AXMASK with its valid bit AXMASKV: `none` while AXMASKV is 0 (10_state.md R15). -/
  axmask : Option AxisMask
  /-- VAL with its valid bit VALV: `none` while VALV is 0 (10_state.md R16). VAL is `CELL_W` bits
  wide; the bits from `CELL_W` up are 0 in every value written (log entry 4). -/
  val : Option (BitVec 16)
  /-- FAULT (10_state.md R18). -/
  fault : FaultCode
  /-- FCMD: the word that caused the fault (10_state.md R19). -/
  fcmd : CommandWord
  /-- The port `res[15:0]`: the result of the most recently completed command (10_state.md R25). -/
  res : Bitmask
  /-- What the host will do next, first action first; `[]` is a host that presents nothing. -/
  host : List HostAction
deriving DecidableEq, Repr

/-- The block after reset, for each `CELL_N` (10_state.md R24, 70_reset_and_hazards.md R170). -/
def State.resetFor (n : CellN) : State where
  cellN := n
  current := 0x0000
  diff := 0x0000
  axmask := none
  val := none
  fault := .noFault
  fcmd := 0x000000
  res := 0x0000
  host := []

/-- The machine right after reset: the block of `Config.cellN` (log entry 1), nothing presented to it
(log entry 2). -/
def State.reset : State := State.resetFor Config.cellN

/-- Reasons for which the machine would stop. There are none: the block's own three faults are
registers written by a step that goes on (60_exceptions.md R152, R153), so this type is empty, which
is safe: no step of the model ends in a fault (DEDUCED, log entry 7). -/
inductive Fault
deriving DecidableEq, Repr

/-- Reasons for which the model has no meaning to give. -/
inductive Refusal where
  /-- Raised by an arm of `exec` for a command without a meaning; safe. No arm raises it: all 43
  commands have their meaning. -/
  | notModelled (mnemonic : String)
deriving DecidableEq, Repr

end Sys2Proof.Machine
end

