-- ==== Sys2Proof/Machine/Ops.lean ====
section
/-!
DEFINITION. The named operations over the registers: completing a command, writing the tracker, the
axis mask and the cell, taking a fault, being halted, and reset.
-/

namespace Sys2Proof.Machine

/-- Completes a command with the result `v` on the port `res` (30_encoding.md R46). -/
def finish (v : Bitmask) (s : State) : State := { s with res := v }

/-- Writes CURRENT (10_state.md R13). -/
def writeCurrent (v : Bitmask) (s : State) : State := { s with current := v }

/-- Writes DIFF, all 16 bits (10_state.md R14). -/
def writeDiff (v : Bitmask) (s : State) : State := { s with diff := v }

/-- Writes AXMASK and sets AXMASKV to 1 (10_state.md R15). -/
def writeAxmask (m : AxisMask) (s : State) : State := { s with axmask := some m }

/-- Writes VAL and sets VALV to 1 (10_state.md R16). -/
def writeVal (v : BitVec 16) (s : State) : State := { s with val := some v }

/-- Taking a fault, `raise F(cmd)` (60_exceptions.md R152): the code into FAULT, the word into FCMD,
`res` 0, nothing else. There is no vector, no handler and no saved state. -/
def raise (c : FaultCode) (cmd : CommandWord) (s : State) : State :=
  { s with fault := c, fcmd := cmd, res := 0x0000 }

/-- A command presented to a halted block: no register changes, `res` is 0 (60_exceptions.md R153). -/
def ignore (s : State) : State := finish 0x0000 s

/-- The effect of a command, which is ignored while FAULT is not 0 (60_exceptions.md R153). -/
def whenRunning (effect : State → State) (s : State) : State :=
  if s.fault = .noFault then effect s else ignore s

/-- Reset, the only return from a fault (60_exceptions.md R159, 70_reset_and_hazards.md R170): every
register takes its reset value whatever it held. The build parameter stays, and so does the rest of
what the host will do. -/
def applyReset (s : State) : State := { State.resetFor s.cellN with host := s.host }

/-- Building a block for a requested width and resetting it (70_reset_and_hazards.md R173 steps 1, 2):
no block exists for a width outside 1..15 (00_scope.md R4). -/
def State.build? (cellN : Nat) : Option State := (CellN.ofNat? cellN).map State.resetFor

/-- The block's output ports (10_state.md R25). -/
structure Outputs where
  res : Bitmask
  faultQ : BitVec 2
  fcmdQ : CommandWord
  /-- What `axmask_q` shows while `axmask_v` is 1; `none` while it is 0, when the port's bits are
  unspecified (93_implementation_defined.md U10). -/
  axmaskQ : Option AxisMask
  axmaskV : Bool
deriving DecidableEq, Repr

/-- What the host sees of a state (10_state.md R25). -/
def outputs (s : State) : Outputs where
  res := s.res
  faultQ := s.fault.code
  fcmdQ := s.fcmd
  axmaskQ := s.axmask
  axmaskV := s.axmask.isSome

end Sys2Proof.Machine
end

