-- ==== Sys2Proof/Machine/Operands.lean ====
section
/-!
DEFINITION. What the operands mean: the ten lines and their flags, the polarity inversion of a raw
value, the button and axis tests of a bitmask, and the truncation of a cell operation.
-/

namespace Sys2Proof.Machine

/-- The ten assigned lines (00_scope.md R8, 10_state.md R20). -/
inductive Line where
  | a | b | select | start | right | left | up | down | r | l
deriving DecidableEq, Repr

/-- The bit position of a line (00_scope.md R8). -/
def Line.index : Line → Nat
  | .a => 0
  | .b => 1
  | .select => 2
  | .start => 3
  | .right => 4
  | .left => 5
  | .up => 6
  | .down => 7
  | .r => 8
  | .l => 9

/-- The named flag constant of a line (00_scope.md R8). -/
def Line.flag (ln : Line) : Bitmask := 0x0001#16 <<< ln.index

/-- The four D-pad lines, bits 4 to 7 (00_scope.md R8). -/
def dpadMask : Bitmask := 0x00F0

/-- The ten assigned bits (00_scope.md R8). -/
def assignedMask : Bitmask := 0x03FF

/-- The six reserved bits (00_scope.md R8). -/
def reservedMask : Bitmask := 0xFC00

/-- `norm`: the normalized form of a raw value, all 16 bits complemented (40_rawinput.md R61). -/
def normRaw (r : Bitmask) : Bitmask := ~~~r

/-- `btn(b, i)`: the test of one bit (41_snapshot.md R66). -/
def btn (b : Bitmask) (i : Nat) : Bitmask := boolResult (b.getLsbD i)

/-- `axis(b, p, n)`: two independent terms, +1 and -1, added (41_snapshot.md R92). -/
def axis (b : Bitmask) (p n : Nat) : Int :=
  (if b.getLsbD p then 1 else 0) + (if b.getLsbD n then -1 else 0)

/-- All bits of the key `k` are set in `x`: `(x & k) == k` (42_eventtracker.md R102, R104). True of an
empty key (log entry 5). -/
def allSet (x k : Bitmask) : Bool := (x &&& k) == k

/-- No bit of the key `k` is set in `x`: `(x & k) == 0` (42_eventtracker.md R103, R105). True of an
empty key (log entry 5). -/
def noneSet (x k : Bitmask) : Bool := (x &&& k) == 0x0000

/-- `trunc_W` of an exact result, the residue modulo `2^CELL_W`, held in 16 bits
(43_packedbitcell.md R122). -/
def truncW (n : CellN) (z : Int) : BitVec 16 := BitVec.ofNat 16 (z % (2 : Int) ^ n.width).toNat

end Sys2Proof.Machine
end

