-- ==== Sys2Proof/Machine/Cell.lean ====
section
/-!
DEFINITION. The CELL unit, the packed bit cell (43_packedbitcell.md). `cmd` is the word of the
command executed, which a fault records in FCMD (60_exceptions.md R152; DEDUCED, log entry 8).
-/

namespace Sys2Proof.Machine

/-- Reads VAL, or raises CellUnwritten while VALV is 0 (60_exceptions.md R155). -/
def readCell (cmd : CommandWord) (use : BitVec 16 → State → State) (s : State) : State :=
  match s.val with
  | none => raise .cellUnwritten cmd s
  | some v => use v s

/-- The frame of the ten arithmetic commands (43_packedbitcell.md R122), in the order of
60_exceptions.md R158: a format C operand of `2^CELL_W` or more is illegal, then the cell must hold
a value, which `use` gets. -/
def cellOperation (cmd : CommandWord) (y : Bitmask) (use : BitVec 16 → State → State) (s : State) :
    State :=
  whenRunning (fun s =>
    if operandFits s.cellN y then readCell cmd use s else raise .illegalCommand cmd s) s

/-- `VAL <- trunc_W(f(VAL, y))`, `f` over the unbounded integers, no result (43_packedbitcell.md R122). -/
def writeArith (f : Nat → Nat → Int) (y : Bitmask) (v : BitVec 16) (s : State) : State :=
  finish 0x0000 (writeVal (truncW s.cellN (f v.toNat y.toNat)) s)

/-- An arithmetic command other than CELL.DIV and CELL.MOD (43_packedbitcell.md R122). -/
def cellArith (cmd : CommandWord) (y : Bitmask) (f : Nat → Nat → Int) (s : State) : State :=
  cellOperation cmd y (writeArith f y) s

/-- CELL.DIV and CELL.MOD: a zero divisor raises CellDivideByZero and leaves VAL as it was
(43_packedbitcell.md R122, 60_exceptions.md R156). -/
def cellDivide (cmd : CommandWord) (y : Bitmask) (f : Nat → Nat → Int) (s : State) : State :=
  cellOperation cmd y
    (fun v s => if y = 0 then raise .cellDivideByZero cmd s else writeArith f y v s) s

/-- `CELL.SETB t` writes 0 or 1 over all bits of VAL (43_packedbitcell.md R123). -/
def execCellSetb (t : Bool) (s : State) : Host.Outcome State Fault Refusal :=
  .next (whenRunning (fun s => finish 0x0000 (writeVal (if t then 1 else 0) s)) s)

/-- `CELL.GET` returns VAL, all `CELL_W` bits, zero-extended (43_packedbitcell.md R124). -/
def execCellGet (s : State) : Host.Outcome State Fault Refusal :=
  .next (whenRunning (readCell (encode .cellGet) finish) s)

/-- `CELL.ADD y`: `f = VAL + y` (43_packedbitcell.md R125). -/
def execCellAdd (y : Bitmask) (s : State) : Host.Outcome State Fault Refusal :=
  .next (cellArith (encode (.cellAdd y)) y (fun v y => (v + y : Int)) s)

/-- `CELL.SUB y`: `f = VAL - y`, the non-negative residue (43_packedbitcell.md R126). -/
def execCellSub (y : Bitmask) (s : State) : Host.Outcome State Fault Refusal :=
  .next (cellArith (encode (.cellSub y)) y (fun v y => (v - y : Int)) s)

/-- `CELL.MUL y`: `f = VAL * y` (43_packedbitcell.md R127). -/
def execCellMul (y : Bitmask) (s : State) : Host.Outcome State Fault Refusal :=
  .next (cellArith (encode (.cellMul y)) y (fun v y => (v * y : Int)) s)

/-- `CELL.DIV y`: `f = VAL div y`, `y = 0` raises CellDivideByZero (43_packedbitcell.md R128). -/
def execCellDiv (y : Bitmask) (s : State) : Host.Outcome State Fault Refusal :=
  .next (cellDivide (encode (.cellDiv y)) y (fun v y => (v / y : Nat)) s)

/-- `CELL.MOD y`: `f = VAL mod y`, `y = 0` raises CellDivideByZero (43_packedbitcell.md R129). -/
def execCellMod (y : Bitmask) (s : State) : Host.Outcome State Fault Refusal :=
  .next (cellDivide (encode (.cellMod y)) y (fun v y => (v % y : Nat)) s)

/-- `CELL.SHL y`: `f = VAL * 2^y`, 0 for `y >= CELL_W` (43_packedbitcell.md R130). -/
def execCellShl (y : Bitmask) (s : State) : Host.Outcome State Fault Refusal :=
  .next (cellArith (encode (.cellShl y)) y (fun v y => (v * 2 ^ y : Nat)) s)

/-- `CELL.SHR y`: `f = VAL div 2^y`, a logical shift (43_packedbitcell.md R131). -/
def execCellShr (y : Bitmask) (s : State) : Host.Outcome State Fault Refusal :=
  .next (cellArith (encode (.cellShr y)) y (fun v y => (v / 2 ^ y : Nat)) s)

/-- `CELL.AND y`: `f = VAL & y` (43_packedbitcell.md R132). -/
def execCellAnd (y : Bitmask) (s : State) : Host.Outcome State Fault Refusal :=
  .next (cellArith (encode (.cellAnd y)) y (fun v y => (v &&& y : Nat)) s)

/-- `CELL.OR y`: `f = VAL | y` (43_packedbitcell.md R133). -/
def execCellOr (y : Bitmask) (s : State) : Host.Outcome State Fault Refusal :=
  .next (cellArith (encode (.cellOr y)) y (fun v y => (v ||| y : Nat)) s)

/-- `CELL.XOR y`: `f = VAL ^ y` (43_packedbitcell.md R134). -/
def execCellXor (y : Bitmask) (s : State) : Host.Outcome State Fault Refusal :=
  .next (cellArith (encode (.cellXor y)) y (fun v y => (v ^^^ y : Nat)) s)

end Sys2Proof.Machine
end

