-- ==== Sys2Proof/Machine/Raw.lean ====
section
/-!
DEFINITION. The RAW unit (40_rawinput.md).
-/

namespace Sys2Proof.Machine

/-- `NORM raw` returns the normalized form of a raw value (40_rawinput.md R60). -/
def execNorm (raw : Bitmask) (s : State) : Host.Outcome State Fault Refusal :=
  .next (whenRunning (finish (normRaw raw)) s)

end Sys2Proof.Machine
end

