-- ==== Sys2Proof/Machine/Snap.lean ====
section
/-!
DEFINITION. The SNAP unit: button tests and axes of a normalized bitmask, pure functions of the
operand (41_snapshot.md R65 to R78).
-/

namespace Sys2Proof.Machine

/-- The test of one line of a bitmask; no state is read or written but the result port
(41_snapshot.md R65, R66). -/
def testLine (ln : Line) (b : Bitmask) (s : State) : State :=
  whenRunning (finish (btn b ln.index)) s

/-- The horizontal axis: Right counts +1, Left -1 (41_snapshot.md R77, R92). -/
def axisX (b : Bitmask) (s : State) : State :=
  whenRunning (finish (axisResult (axis b Line.right.index Line.left.index))) s

/-- The vertical axis: Up counts +1, Down -1 (41_snapshot.md R78, R92). -/
def axisY (b : Bitmask) (s : State) : State :=
  whenRunning (finish (axisResult (axis b Line.up.index Line.down.index))) s

/-- `SNAP.A b` tests button A (41_snapshot.md R67). -/
def execSnapA (b : Bitmask) (s : State) : Host.Outcome State Fault Refusal :=
  .next (testLine .a b s)

/-- `SNAP.B b` tests button B (41_snapshot.md R68). -/
def execSnapB (b : Bitmask) (s : State) : Host.Outcome State Fault Refusal :=
  .next (testLine .b b s)

/-- `SNAP.SELECT b` tests Select (41_snapshot.md R69). -/
def execSnapSelect (b : Bitmask) (s : State) : Host.Outcome State Fault Refusal :=
  .next (testLine .select b s)

/-- `SNAP.START b` tests Start (41_snapshot.md R70). -/
def execSnapStart (b : Bitmask) (s : State) : Host.Outcome State Fault Refusal :=
  .next (testLine .start b s)

/-- `SNAP.RIGHT b` tests D-pad Right (41_snapshot.md R71). -/
def execSnapRight (b : Bitmask) (s : State) : Host.Outcome State Fault Refusal :=
  .next (testLine .right b s)

/-- `SNAP.LEFT b` tests D-pad Left (41_snapshot.md R72). -/
def execSnapLeft (b : Bitmask) (s : State) : Host.Outcome State Fault Refusal :=
  .next (testLine .left b s)

/-- `SNAP.UP b` tests D-pad Up (41_snapshot.md R73). -/
def execSnapUp (b : Bitmask) (s : State) : Host.Outcome State Fault Refusal :=
  .next (testLine .up b s)

/-- `SNAP.DOWN b` tests D-pad Down (41_snapshot.md R74). -/
def execSnapDown (b : Bitmask) (s : State) : Host.Outcome State Fault Refusal :=
  .next (testLine .down b s)

/-- `SNAP.R b` tests button R (41_snapshot.md R75). -/
def execSnapR (b : Bitmask) (s : State) : Host.Outcome State Fault Refusal :=
  .next (testLine .r b s)

/-- `SNAP.L b` tests button L (41_snapshot.md R76). -/
def execSnapL (b : Bitmask) (s : State) : Host.Outcome State Fault Refusal :=
  .next (testLine .l b s)

/-- `SNAP.AXISX b` returns the horizontal axis (41_snapshot.md R77). -/
def execSnapAxisx (b : Bitmask) (s : State) : Host.Outcome State Fault Refusal :=
  .next (axisX b s)

/-- `SNAP.AXISY b` returns the vertical axis (41_snapshot.md R78). -/
def execSnapAxisy (b : Bitmask) (s : State) : Host.Outcome State Fault Refusal :=
  .next (axisY b s)

end Sys2Proof.Machine
end

