-- ==== Sys2Proof/Machine/Snapr.lean ====
section
/-!
DEFINITION. The SNAPR unit: each command normalizes its raw operand once and then does what the SNAP
command of the same name does (41_snapshot.md R79 to R91).
-/

namespace Sys2Proof.Machine

/-- `SNAPR.A raw` tests button A of a raw value (41_snapshot.md R80). -/
def execSnaprA (raw : Bitmask) (s : State) : Host.Outcome State Fault Refusal :=
  .next (testLine .a (normRaw raw) s)

/-- `SNAPR.B raw` tests button B of a raw value (41_snapshot.md R81). -/
def execSnaprB (raw : Bitmask) (s : State) : Host.Outcome State Fault Refusal :=
  .next (testLine .b (normRaw raw) s)

/-- `SNAPR.SELECT raw` tests Select of a raw value (41_snapshot.md R82). -/
def execSnaprSelect (raw : Bitmask) (s : State) : Host.Outcome State Fault Refusal :=
  .next (testLine .select (normRaw raw) s)

/-- `SNAPR.START raw` tests Start of a raw value (41_snapshot.md R83). -/
def execSnaprStart (raw : Bitmask) (s : State) : Host.Outcome State Fault Refusal :=
  .next (testLine .start (normRaw raw) s)

/-- `SNAPR.RIGHT raw` tests D-pad Right of a raw value (41_snapshot.md R84). -/
def execSnaprRight (raw : Bitmask) (s : State) : Host.Outcome State Fault Refusal :=
  .next (testLine .right (normRaw raw) s)

/-- `SNAPR.LEFT raw` tests D-pad Left of a raw value (41_snapshot.md R85). -/
def execSnaprLeft (raw : Bitmask) (s : State) : Host.Outcome State Fault Refusal :=
  .next (testLine .left (normRaw raw) s)

/-- `SNAPR.UP raw` tests D-pad Up of a raw value (41_snapshot.md R86). -/
def execSnaprUp (raw : Bitmask) (s : State) : Host.Outcome State Fault Refusal :=
  .next (testLine .up (normRaw raw) s)

/-- `SNAPR.DOWN raw` tests D-pad Down of a raw value (41_snapshot.md R87). -/
def execSnaprDown (raw : Bitmask) (s : State) : Host.Outcome State Fault Refusal :=
  .next (testLine .down (normRaw raw) s)

/-- `SNAPR.R raw` tests button R of a raw value (41_snapshot.md R88). -/
def execSnaprR (raw : Bitmask) (s : State) : Host.Outcome State Fault Refusal :=
  .next (testLine .r (normRaw raw) s)

/-- `SNAPR.L raw` tests button L of a raw value (41_snapshot.md R89). -/
def execSnaprL (raw : Bitmask) (s : State) : Host.Outcome State Fault Refusal :=
  .next (testLine .l (normRaw raw) s)

/-- `SNAPR.AXISX raw` returns the horizontal axis of a raw value (41_snapshot.md R90). -/
def execSnaprAxisx (raw : Bitmask) (s : State) : Host.Outcome State Fault Refusal :=
  .next (axisX (normRaw raw) s)

/-- `SNAPR.AXISY raw` returns the vertical axis of a raw value (41_snapshot.md R91). -/
def execSnaprAxisy (raw : Bitmask) (s : State) : Host.Outcome State Fault Refusal :=
  .next (axisY (normRaw raw) s)

end Sys2Proof.Machine
end

