-- ==== Sys2Proof/Machine/Trk.lean ====
section
/-!
DEFINITION. The TRK unit, the edge detector (42_eventtracker.md).
-/

namespace Sys2Proof.Machine

/-- A tracker query: the answer depends on CURRENT, DIFF and the key, and nothing is written but the
result port (42_eventtracker.md R100). -/
def answerQuery (answer : Bitmask → Bitmask → Bool) (s : State) : State :=
  whenRunning (finish (boolResult (answer s.current s.diff))) s

/-- The update, step for step (42_eventtracker.md R101): `d = CURRENT ^ n`; CURRENT is written when
`d` is not 0, DIFF always. -/
def updateTracker (n : Bitmask) (s : State) : State :=
  let d := s.current ^^^ n
  finish 0x0000 (writeDiff d (if d = 0x0000 then s else writeCurrent n s))

/-- The axis-change query (42_eventtracker.md R106): true when a D-pad bit is in DIFF, and then the
level of all four directions, `CURRENT[7:4]`, is latched. -/
def latchAxis (s : State) : State :=
  if s.diff &&& dpadMask = 0x0000 then finish 0x0000 s
  else finish 0x0001 (writeAxmask ((s.current >>> 4).setWidth 4) s)

/-- `TRK.UPDATE raw` folds one raw sample into the tracker (42_eventtracker.md R101). -/
def execTrkUpdate (raw : Bitmask) (s : State) : Host.Outcome State Fault Refusal :=
  .next (whenRunning (updateTracker (normRaw raw)) s)

/-- `TRK.PRESSED k`: all bits of `k` are set in CURRENT (42_eventtracker.md R102). -/
def execTrkPressed (k : Bitmask) (s : State) : Host.Outcome State Fault Refusal :=
  .next (answerQuery (fun cur _ => allSet cur k) s)

/-- `TRK.RELEASED k`: none of the bits of `k` are set in CURRENT (42_eventtracker.md R103). -/
def execTrkReleased (k : Bitmask) (s : State) : Host.Outcome State Fault Refusal :=
  .next (answerQuery (fun cur _ => noneSet cur k) s)

/-- `TRK.DOWN k`: all bits of `k` changed on the latest update and are now set
(42_eventtracker.md R104). -/
def execTrkDown (k : Bitmask) (s : State) : Host.Outcome State Fault Refusal :=
  .next (answerQuery (fun cur d => allSet d k && allSet cur k) s)

/-- `TRK.UP k`: all bits of `k` changed on the latest update and are now clear
(42_eventtracker.md R105). -/
def execTrkUp (k : Bitmask) (s : State) : Host.Outcome State Fault Refusal :=
  .next (answerQuery (fun cur d => allSet d k && noneSet cur k) s)

/-- `TRK.AXCHG`: the axis-change query (42_eventtracker.md R106). -/
def execTrkAxchg (s : State) : Host.Outcome State Fault Refusal :=
  .next (whenRunning latchAxis s)

end Sys2Proof.Machine
end

