-- ==== Sys2Proof/Machine/Dispatch.lean ====
section
/-!
DEFINITION. The meaning of every command (30_encoding.md R45, R48).
-/

namespace Sys2Proof.Machine

def exec (i : Instr) (s : State) : Host.Outcome State Fault Refusal :=
  match i with
  | .norm raw => Sys2Proof.Machine.execNorm raw s
  | .snapA b => Sys2Proof.Machine.execSnapA b s
  | .snapB b => Sys2Proof.Machine.execSnapB b s
  | .snapSelect b => Sys2Proof.Machine.execSnapSelect b s
  | .snapStart b => Sys2Proof.Machine.execSnapStart b s
  | .snapRight b => Sys2Proof.Machine.execSnapRight b s
  | .snapLeft b => Sys2Proof.Machine.execSnapLeft b s
  | .snapUp b => Sys2Proof.Machine.execSnapUp b s
  | .snapDown b => Sys2Proof.Machine.execSnapDown b s
  | .snapR b => Sys2Proof.Machine.execSnapR b s
  | .snapL b => Sys2Proof.Machine.execSnapL b s
  | .snapAxisx b => Sys2Proof.Machine.execSnapAxisx b s
  | .snapAxisy b => Sys2Proof.Machine.execSnapAxisy b s
  | .snaprA raw => Sys2Proof.Machine.execSnaprA raw s
  | .snaprB raw => Sys2Proof.Machine.execSnaprB raw s
  | .snaprSelect raw => Sys2Proof.Machine.execSnaprSelect raw s
  | .snaprStart raw => Sys2Proof.Machine.execSnaprStart raw s
  | .snaprRight raw => Sys2Proof.Machine.execSnaprRight raw s
  | .snaprLeft raw => Sys2Proof.Machine.execSnaprLeft raw s
  | .snaprUp raw => Sys2Proof.Machine.execSnaprUp raw s
  | .snaprDown raw => Sys2Proof.Machine.execSnaprDown raw s
  | .snaprR raw => Sys2Proof.Machine.execSnaprR raw s
  | .snaprL raw => Sys2Proof.Machine.execSnaprL raw s
  | .snaprAxisx raw => Sys2Proof.Machine.execSnaprAxisx raw s
  | .snaprAxisy raw => Sys2Proof.Machine.execSnaprAxisy raw s
  | .trkUpdate raw => Sys2Proof.Machine.execTrkUpdate raw s
  | .trkPressed k => Sys2Proof.Machine.execTrkPressed k s
  | .trkReleased k => Sys2Proof.Machine.execTrkReleased k s
  | .trkDown k => Sys2Proof.Machine.execTrkDown k s
  | .trkUp k => Sys2Proof.Machine.execTrkUp k s
  | .trkAxchg => Sys2Proof.Machine.execTrkAxchg s
  | .cellSetb t => Sys2Proof.Machine.execCellSetb t s
  | .cellGet => Sys2Proof.Machine.execCellGet s
  | .cellAdd y => Sys2Proof.Machine.execCellAdd y s
  | .cellSub y => Sys2Proof.Machine.execCellSub y s
  | .cellMul y => Sys2Proof.Machine.execCellMul y s
  | .cellDiv y => Sys2Proof.Machine.execCellDiv y s
  | .cellMod y => Sys2Proof.Machine.execCellMod y s
  | .cellShl y => Sys2Proof.Machine.execCellShl y s
  | .cellShr y => Sys2Proof.Machine.execCellShr y s
  | .cellAnd y => Sys2Proof.Machine.execCellAnd y s
  | .cellOr y => Sys2Proof.Machine.execCellOr y s
  | .cellXor y => Sys2Proof.Machine.execCellXor y s

end Sys2Proof.Machine
end

