-- ==== Sys2Proof/Machine/Present.lean ====
section
/-!
DEFINITION. What the block does with what the host does: a command word presented, reset, or nothing
(30_encoding.md R48, 70_reset_and_hazards.md R170, R171).
-/

namespace Sys2Proof.Machine

/-- The step of the block for one command presented (30_encoding.md R48): ignored while halted,
IllegalCommand for a word that selects nothing, else the rule of the selected command. -/
def present (w : CommandWord) (s : State) : Host.Outcome State Fault Refusal :=
  if s.fault = .noFault then
    match decode s.cellN w with
    | none => .next (raise .illegalCommand w s)
    | some i => exec i s
  else .next (ignore s)

/-- Takes the host's next action. While the host does nothing (`cmd_valid` is 0) nothing changes:
only a command or reset ever changes the state (00_scope.md R9, 30_encoding.md R48). -/
def takeHostAction (s : State) : Host.Outcome State Fault Refusal :=
  match s.host with
  | [] => .next s
  | .reset :: rest => .next (applyReset { s with host := rest })
  | .command w :: rest => present w { s with host := rest }

/-- Puts a word where the next step looks for one: first in what the host does. -/
def presentNext (w : CommandWord) (s : State) : State := { s with host := .command w :: s.host }

end Sys2Proof.Machine
end

