-- ==== Sys2Proof/Machine/Step.lean ====
section
/-!
DEFINITION. One step of the machine, and how a word comes to be its next command.
-/

namespace Sys2Proof.Machine

/-- One step: the block takes the host's next action (30_encoding.md R48). -/
def step (s : State) : Host.Outcome State Fault Refusal := takeHostAction s

/-- The state in which the host presents the given word next (log entry 2). Every command is one
24-bit word, so the bits above `nbits` are those above bit 23, which do not exist. -/
def State.withFetchWord (s : State) (nbits w : Nat) : State :=
  presentNext (BitVec.ofNat 24 (w % 2 ^ nbits)) s

end Sys2Proof.Machine
end

