-- ==== Sys2Proof/Machine/Assembler.lean ====
section
/-!
DEFINITION. The assembler's view of a program (30_encoding.md R52, R53): outside the block, which only
ever sees the words. Text is a list of characters; the points of layout the rule leaves open are in
log entry 6.
-/

namespace Sys2Proof.Machine

/-- The pseudo-instructions (30_encoding.md R53). -/
inductive Pseudo where
  /-- `TRK.UPDATEN v`: an update given by its normalized value. -/
  | updaten (v : Bitmask)
  /-- `CELL.SETT`: assign true. -/
  | sett
  /-- `CELL.SETF`: assign false. -/
  | setf
  /-- `CELL.INC`: add one. -/
  | inc
  /-- `CELL.DEC`: subtract one. -/
  | dec
deriving DecidableEq, Repr

/-- The command a pseudo-instruction stands for (30_encoding.md R53). -/
def Pseudo.expand : Pseudo → Instr
  | .updaten v => .trkUpdate (0xFFFF - v)
  | .sett => .cellSetb true
  | .setf => .cellSetb false
  | .inc => .cellAdd 1
  | .dec => .cellSub 1

/-- The names a flag expression may use (30_encoding.md R52). -/
def flagNames : List (String × Line) := [
  ("A", .a), ("B", .b), ("SELECT", .select), ("START", .start), ("RIGHT", .right),
  ("LEFT", .left), ("UP", .up), ("DOWN", .down), ("R", .r), ("L", .l)]

/-- Splits a text at every character that `sep` picks out. -/
def splitAtChars (sep : Char → Bool) (cs : List Char) : List (List Char) :=
  cs.foldr (fun c parts =>
    if sep c then [] :: parts
    else match parts with
      | [] => [[c]]
      | p :: ps => (c :: p) :: ps) [[]]

/-- A space, a tab or a carriage return. -/
def isBlank (c : Char) : Bool := c == ' ' || c == '\t' || c == '\r'

/-- The words of a line, its comment left out: "a comment runs from `#` to the end of the line"
(30_encoding.md R52). -/
def lineWords (line : List Char) : List (List Char) :=
  (splitAtChars isBlank (line.takeWhile (· != '#'))).filter (· != [])

/-- The value of a digit in bases up to 16, in either case. -/
def digitValue (c : Char) : Option Nat :=
  if '0' ≤ c ∧ c ≤ '9' then some (c.toNat - '0'.toNat)
  else if 'a' ≤ c ∧ c ≤ 'f' then some (c.toNat - 'a'.toNat + 10)
  else if 'A' ≤ c ∧ c ≤ 'F' then some (c.toNat - 'A'.toNat + 10)
  else none

/-- A number of at least one digit, every digit below the base. -/
def parseDigits (base : Nat) (cs : List Char) : Option Nat :=
  if cs = [] then none
  else cs.foldl (fun acc c => do
    let a ← acc
    let d ← digitValue c
    if d < base then some (a * base + d) else none) (some 0)

/-- A literal in decimal, hexadecimal (`0x`) or binary (`0b`) that fits the 16-bit operand field
(30_encoding.md R52). -/
def parseLiteral (cs : List Char) : Option Bitmask := do
  let v ← match cs with
    | '0' :: 'x' :: ds => parseDigits 16 ds
    | '0' :: 'b' :: ds => parseDigits 2 ds
    | ds => parseDigits 10 ds
  if v < 2 ^ 16 then some (BitVec.ofNat 16 v) else none

/-- The flag of a name. -/
def parseFlag (cs : List Char) : Option Bitmask :=
  (flagNames.find? (fun p => p.1.toList == cs)).map (fun p => p.2.flag)

/-- One or more names joined by `|`, the OR of their flags (30_encoding.md R52). -/
def parseFlags (cs : List Char) : Option Bitmask :=
  (splitAtChars (· == '|') cs).foldl (fun acc name => do
    let a ← acc
    let f ← parseFlag name
    some (a ||| f)) (some 0)

/-- A flag expression, which may be preceded by `~` for its 16-bit complement (30_encoding.md R52);
after `~` it may stand in parentheses, as in 95_test_vectors.md P4. -/
def parseFlagExpr (cs : List Char) : Option Bitmask :=
  match cs with
  | '~' :: '(' :: rest =>
      if rest.getLast? = some ')' then (parseFlags rest.dropLast).map (~~~ ·) else none
  | '~' :: rest => (parseFlags rest).map (~~~ ·)
  | _ => parseFlags cs

/-- The operand of a line: a literal, or for format V a flag expression (30_encoding.md R52). -/
def parseOperand (f : Format) (cs : List Char) : Option Bitmask :=
  match parseLiteral cs with
  | some v => some v
  | none => if f = .v then parseFlagExpr cs else none

/-- A pseudo-instruction, if the words are one (30_encoding.md R53). -/
def parsePseudo (mnemonic : List Char) (operand : Option (List Char)) : Option Pseudo :=
  if mnemonic == "TRK.UPDATEN".toList then
    operand.bind (fun x => (parseOperand .v x).map .updaten)
  else if operand.isSome then none
  else if mnemonic == "CELL.SETT".toList then some .sett
  else if mnemonic == "CELL.SETF".toList then some .setf
  else if mnemonic == "CELL.INC".toList then some .inc
  else if mnemonic == "CELL.DEC".toList then some .dec
  else none

/-- A command of the table: `MNEMONIC` for format Z, `MNEMONIC operand` otherwise (30_encoding.md R52).
The word need not be a legal command: that is for the block to decide (95_test_vectors.md P5, `CELL.ADD 2`). -/
def parseCommand (mnemonic : List Char) (operand : Option (List Char)) : Option CommandWord := do
  let row ← opcodeTable.find? (fun r => r.mnemonic.toList == mnemonic)
  match row.format, operand with
  | .z, none => some row.bits
  | .z, some _ => none
  | _, none => none
  | f, some x => (parseOperand f x).map (fun v => row.bits ||| v.setWidth 24)

/-- The words of one line: none for a blank line, one for a command (30_encoding.md R52). -/
def assembleLine (line : List Char) : Option (List CommandWord) :=
  match lineWords line with
  | [] => some []
  | [m] => word m none
  | [m, x] => word m (some x)
  | _ => none
where
  word (m : List Char) (x : Option (List Char)) : Option (List CommandWord) :=
    match parsePseudo m x with
    | some p => some [encode p.expand]
    | none => (parseCommand m x).map ([·])

/-- A program, one command per line (30_encoding.md R52), or none where some line is not of the
assembler's form. -/
def assemble (text : List Char) : Option (List CommandWord) :=
  (splitAtChars (· == '\n') text).foldr (fun line acc => do
    let ws ← assembleLine line
    let rest ← acc
    some (ws ++ rest)) (some [])

end Sys2Proof.Machine
end

