-- ==== Sys2Proof/Safety.lean ====
section
/-!
DEFINITION. The terms in which claims about the block are made: the shape of a command's rule, which
words are legal, what a safe state is, the relations between the registers that every step keeps, and
pairs of runs that differ only where nobody may look.
-/

namespace Sys2Proof.Machine

/-- The shape of the rule of a command that no operand and no state makes fault: the word `w` selects
`i` whatever `CELL_N` is, a running block completes with `effect`, and a halted block ignores it
(30_encoding.md R45, R48, 60_exceptions.md R153). -/
def CommandRule (w : CommandWord) (i : Instr) (effect : State → State) : Prop :=
  (∀ n, decode n w = some i) ∧
  (∀ s : State, s.fault = .noFault → exec i s = .next (effect s)) ∧
  (∀ s : State, s.fault ≠ .noFault → exec i s = .next { s with res := 0x0000 })

/-- The shape of the rule of a CELL arithmetic command with operand `y` (43_packedbitcell.md R122):
the word selects it exactly when `y < 2^CELL_W`, and then, with a value `v` in the cell and the
condition `ok` on the operand, VAL becomes `result CELL_W v` and nothing else changes but the
result port. -/
def CellRule (w : CommandWord) (i : Instr) (y : Bitmask) (ok : Prop)
    (result : Nat → BitVec 16 → BitVec 16) : Prop :=
  (∀ n : CellN, y.toNat < 2 ^ n.width → decode n w = some i) ∧
  (∀ n : CellN, 2 ^ n.width ≤ y.toNat → decode n w = none) ∧
  (∀ (s : State) (v : BitVec 16), s.fault = .noFault → s.val = some v →
    v.toNat < 2 ^ s.cellN.width → y.toNat < 2 ^ s.cellN.width → ok →
    exec i s = .next { s with val := some (result s.cellN.width v), res := 0x0000 }) ∧
  (∀ s : State, s.fault ≠ .noFault → exec i s = .next { s with res := 0x0000 })

/-- The word whose top eight bits are those of `base` and whose operand is `imm`, as the rules write
it: `cmd = base + imm`. -/
def wordOf (base : CommandWord) (imm : Bitmask) : CommandWord := base + imm.setWidth 24

/-- The truth table of the axis function, from the positive and the negative bit (41_snapshot.md R92). -/
def axisTable : Bool → Bool → Bitmask
  | false, false => 0x0000
  | true, false => 0x0001
  | false, true => 0xFFFF
  | true, true => 0x0000

/-- Which words select a command, read from the tables of units and functions and from the operand
formats (30_encoding.md R42, R44, R45, R50). -/
def legalWord (n : CellN) (w : CommandWord) : Prop :=
  (w.unit = 0x0 ∧ w.fn = 0x0) ∨
  ((w.unit = 0x1 ∨ w.unit = 0x2) ∧ w.fn ≤ 0xB) ∨
  (w.unit = 0x3 ∧ w.fn ≤ 0x4) ∨
  (w.unit = 0x3 ∧ w.fn = 0x5 ∧ w.imm = 0) ∨
  (w.unit = 0x4 ∧ w.fn = 0x0 ∧ w.imm.toNat ≤ 1) ∨
  (w.unit = 0x4 ∧ w.fn = 0x1 ∧ w.imm = 0) ∨
  (w.unit = 0x4 ∧ 0x2 ≤ w.fn ∧ w.fn ≤ 0xB ∧ w.imm.toNat < 2 ^ n.width)

/-- "FAULT is 0": a run that reaches a faulted state has gone wrong (60_exceptions.md R153). -/
def State.safe (s : State) : Bool := decide (s.fault = .noFault)

/-- VAL, when it has a value, is a `CELL_W`-bit value (10_state.md R16). -/
def State.cellFits (s : State) : Bool :=
  match s.val with
  | none => true
  | some v => decide (v.toNat < 2 ^ s.cellN.width)

/-- FCMD still has its reset value while no fault is recorded (10_state.md R19: "written once,
together with FAULT, by fault entry"). -/
def State.fcmdIdle (s : State) : Bool := decide (s.fault = .noFault → s.fcmd = 0x000000)

/-- The relations between registers that hold at reset and that every step keeps. -/
def State.registersConsistent (s : State) : Bool := s.cellFits && s.fcmdIdle

/-- VAL has no value or is 0 or 1 (43_packedbitcell.md R136). -/
def State.cellBoolean (s : State) : Bool := decide (s.val = none ∨ s.val = some 0 ∨ s.val = some 1)

/-- The word is in the function codes of the ten CELL arithmetic commands (30_encoding.md R45). -/
def isCellArithWord (w : CommandWord) : Bool := decide (w.unit = 0x4 ∧ 0x2 ≤ w.fn ∧ w.fn ≤ 0xB)

/-- The host never presents a CELL arithmetic command (43_packedbitcell.md R136: VAL "has only ever
been written by `CELL.SETB`"). -/
def noCellArith (host : List HostAction) : Prop :=
  ∀ w, HostAction.command w ∈ host → isCellArithWord w = false

/-- Two states that differ at most in the reserved bits of CURRENT and DIFF and in what the host will
do (70_reset_and_hazards.md R181). -/
def sameButReserved (s t : State) : Prop :=
  s.current &&& assignedMask = t.current &&& assignedMask ∧
  s.diff &&& assignedMask = t.diff &&& assignedMask ∧
  { s with current := 0, diff := 0, host := [] } = { t with current := 0, diff := 0, host := [] }

/-- The word is a tracker query with a key (30_encoding.md R45, units 0x3, functions 0x1 to 0x4). -/
def isKeyQueryWord (w : CommandWord) : Prop := w.unit = 0x3 ∧ 0x1 ≤ w.fn ∧ w.fn ≤ 0x4

/-- Two host actions that differ at most in the reserved bits of a raw value given to TRK.UPDATE,
where every query key is built from the ten flags (70_reset_and_hazards.md R181). -/
inductive SameButReservedRaw : HostAction → HostAction → Prop where
  /-- The same action, a query having a key without reserved bits. -/
  | same (a : HostAction)
      (key : ∀ w, a = .command w → isKeyQueryWord w → w.imm &&& reservedMask = 0) :
      SameButReservedRaw a a
  /-- Two updates whose raw values agree on the assigned bits. -/
  | update (r r' : Bitmask) (agree : r &&& assignedMask = r' &&& assignedMask) :
      SameButReservedRaw (.command (wordOf 0x300000 r)) (.command (wordOf 0x300000 r'))

end Sys2Proof.Machine
end

