-- ==== Sys2Proof/Certificates/Slice0/Obligations.lean ====
section
/-!
DEFINITION. The statements for the provers, one `def Obligations.<Name> : Prop` each, from the
numbered rules of spec/ (OBLIGATIONS.json lists them with their rules).
-/

open Sys2Proof Sys2Proof.Machine

/-- Building a block for a requested CELL_N gives the reset state of a block of exactly that CELL_N
when it lies in 1..15, never of another width, and nothing otherwise. (Stated: R4, R161.) -/
def Obligations.WidthOutsideOneToFifteenRefused : Prop :=
  ∀ k : Nat,
    (∀ h : 1 ≤ k ∧ k ≤ 15, State.build? k = some (State.resetFor ⟨k, h.1, h.2⟩)) ∧
    (¬ (1 ≤ k ∧ k ≤ 15) → State.build? k = none)

/-- For every CELL_N, CELL_W is a power of two that is at least CELL_N, every power of two that is
at least CELL_N is at least CELL_W, and CELL_N and CELL_P make up CELL_W, which is at most 16.
(Stated: R5.) -/
def Obligations.CellWidthIsSmallestPowerOfTwo : Prop :=
  ∀ n : CellN,
    (∃ k, n.width = 2 ^ k) ∧ n.val ≤ n.width ∧ (∀ k, n.val ≤ 2 ^ k → n.width ≤ 2 ^ k) ∧
    n.val + n.padding = n.width ∧ n.width ≤ 16

/-- The flags of the ten lines have the values 0x0001 to 0x0200 of the table, their OR is ASSIGNED,
the OR of the four directions is DPAD, and RESERVED is the complement of ASSIGNED. (Stated: R8.) -/
def Obligations.FlagConstantsAndMasks : Prop :=
  Line.flag .a = 0x0001 ∧ Line.flag .b = 0x0002 ∧ Line.flag .select = 0x0004 ∧
  Line.flag .start = 0x0008 ∧ Line.flag .right = 0x0010 ∧ Line.flag .left = 0x0020 ∧
  Line.flag .up = 0x0040 ∧ Line.flag .down = 0x0080 ∧ Line.flag .r = 0x0100 ∧
  Line.flag .l = 0x0200 ∧ dpadMask = 0x00F0 ∧ assignedMask = 0x03FF ∧ reservedMask = 0xFC00 ∧
  dpadMask = Line.flag .right ||| Line.flag .left ||| Line.flag .up ||| Line.flag .down ∧
  assignedMask = dpadMask ||| Line.flag .a ||| Line.flag .b ||| Line.flag .select |||
    Line.flag .start ||| Line.flag .r ||| Line.flag .l ∧
  reservedMask = ~~~assignedMask

/-- The word of a unit, a function and an operand is the number unit * 2^20 + fn * 2^16 + imm, its
three fields are the ones it was made of, and every word is the word of its fields. (Stated: R41.)
-/
def Obligations.WordIsUnitFnImm : Prop :=
  (∀ (u f : BitVec 4) (imm : Bitmask),
    (CommandWord.ofFields u f imm).toNat = u.toNat * 2 ^ 20 + f.toNat * 2 ^ 16 + imm.toNat ∧
    (CommandWord.ofFields u f imm).unit = u ∧ (CommandWord.ofFields u f imm).fn = f ∧
    (CommandWord.ofFields u f imm).imm = imm) ∧
  (∀ w : CommandWord, CommandWord.ofFields w.unit w.fn w.imm = w)

/-- In a block of any CELL_N a word selects a command exactly when its unit and function are one of
the 43 assigned pairs and its operand is legal for the format: 0 for TRK.AXCHG and CELL.GET, at most
1 for CELL.SETB, below 2^CELL_W for the ten arithmetic commands; every other word decodes to nothing
and raises IllegalCommand in a running block. (Stated: R42, R47, R50.) -/
def Obligations.DecodeSelectsExactlyTheLegalWords : Prop :=
  ∀ (n : CellN) (w : CommandWord),
    (legalWord n w → ∃ i, decode n w = some i) ∧
    (¬ legalWord n w → decode n w = none ∧
      ∀ (s : State) (rest : List HostAction), s.cellN = n → s.fault = .noFault →
        s.host = .command w :: rest →
        step s = .next
          { s with host := rest, fault := .illegalCommand, fcmd := w, res := 0x0000 })

/-- Whatever command a word decodes to, the row of that mnemonic in the opcode table matches the
word under its mask; and a word that matches a row, its operand being below 2^CELL_W where the row
is of format C, decodes to a command of that row's mnemonic. (Stated: R45.) -/
def Obligations.DecodeAgreesWithOpcodeTable : Prop :=
  ∀ (n : CellN) (w : CommandWord),
    (∀ i, decode n w = some i →
      ∃ r ∈ opcodeTable, r.mnemonic = i.mnemonic ∧ w &&& r.mask = r.bits) ∧
    (∀ r ∈ opcodeTable, w &&& r.mask = r.bits →
      (r.format = .c → w.imm.toNat < 2 ^ n.width) →
      ∃ i, decode n w = some i ∧ i.mnemonic = r.mnemonic)

/-- For every CELL_N and every command, with every operand its format admits, the decoder gives back
the command from its word. (Derived: R41, R45, R47.) -/
def Obligations.DecodeInvertsEncode : Prop :=
  ∀ (n : CellN) (i : Instr), i.wellFormed n → decode n (encode i) = some i

/-- For every CELL_N and every word that decodes to a command, the command is well formed and its
encoding is that word again, so no bit of a legal word is dropped. (Derived: R41, R45, R47.) -/
def Obligations.EncodeInvertsDecode : Prop :=
  ∀ (n : CellN) (w : CommandWord) (i : Instr), decode n w = some i → i.wellFormed n ∧ encode i = w

/-- Of the 256 values of cmd[23:16] exactly 43 select a command with operand 0, for every CELL_N,
and the opcode table has 43 rows. (Derived: 20_memory.md section 1 (R31).) -/
def Obligations.FortyThreeFunctionCodesAssigned : Prop :=
  (∀ n : CellN, ((List.range 256).filter
    (fun k => (decode n (BitVec.ofNat 24 (k * 65536))).isSome)).length = 43) ∧
  opcodeTable.length = 43

/-- The command words of the worked examples, at least one for each unit, decode as the spec says in
a block with CELL_N = 3, and reserved words and out-of-range operands decode to nothing. (Derived:
95_test_vectors.md section 2.) -/
def Obligations.SpecWordsDecode : Prop :=
  ∀ n : CellN, n.val = 3 →
    decode n 0x00FFFE = some (.norm 0xFFFE) ∧ decode n 0x190200 = some (.snapL 0x0200) ∧
    decode n 0x1A0020 = some (.snapAxisx 0x0020) ∧ decode n 0x2B037F = some (.snaprAxisy 0x037F) ∧
    decode n 0x30FFFE = some (.trkUpdate 0xFFFE) ∧ decode n 0x340001 = some (.trkUp 0x0001) ∧
    decode n 0x350000 = some .trkAxchg ∧ decode n 0x400001 = some (.cellSetb true) ∧
    decode n 0x410000 = some .cellGet ∧ decode n 0x42000E = some (.cellAdd 14) ∧
    decode n 0x4B000F = some (.cellXor 15) ∧ decode n 0x1C0000 = none ∧ decode n 0x360000 = none ∧
    decode n 0x500000 = none ∧ decode n 0x350001 = none ∧ decode n 0x400002 = none ∧
    decode n 0x420010 = none

/-- When the host presents a word, the word is taken off the port and: if FAULT is not 0, the result
is 0x0000 and no register changes; else, if the word is illegal, IllegalCommand is raised with the
word in FCMD; else the step is the execution of the selected command on the state without the word;
and a step in which the host presents nothing changes nothing. (Stated: R48.) -/
def Obligations.StepRunsTheDecodedCommand : Prop :=
  (∀ (s : State) (w : CommandWord) (rest : List HostAction), s.host = .command w :: rest →
    (s.fault ≠ .noFault → step s = .next { s with host := rest, res := 0x0000 }) ∧
    (s.fault = .noFault → decode s.cellN w = none →
      step s = .next { s with host := rest, fault := .illegalCommand, fcmd := w, res := 0x0000 }) ∧
    (∀ i, s.fault = .noFault → decode s.cellN w = some i →
      step s = exec i { s with host := rest })) ∧
  (∀ s : State, s.host = [] → step s = .next s)

/-- About the model's own operation State.withFetchWord, which stands for the host presenting one
word as its next action: this is the model's choice (log entry 2, DESIGN CHOICE), and the spec has
no such operation. With nbits = 24, the length of every command, and any number w, of which the low
24 bits are the word: if those decode to a command, then the next step of a running block is the
execution of that command on the state as it was. What a step does with a word that is presented is
the rule of 30_encoding.md section 5. (Derived: 30_encoding.md section 5.) -/
def Obligations.FetchWordIsTheNextCommand : Prop :=
  ∀ (s : State) (w : Nat) (i : Instr), s.fault = .noFault →
    decode s.cellN (BitVec.ofNat 24 w) = some i → step (s.withFetchWord 24 w) = exec i s

/-- From every state any number of steps ends in a next state, in which exactly that many of the
host's actions have been taken and the build parameter is unchanged: no command can block, stop or
loop. (Derived: 70_reset_and_hazards.md section 4 (R186).) -/
def Obligations.EveryCommandCompletes : Prop :=
  ∀ (k : Nat) (s : State), ∃ t : State,
    core.run k s = .next t ∧ t.host = s.host.drop k ∧ t.cellN = s.cellN

/-- After reset CURRENT and DIFF are 0x0000, AXMASK and VAL have no value (their valid bits are 0),
FAULT is 0, FCMD is 0x000000 and res is 0x0000, whatever CELL_N is; the block that the model starts
is one of these. (Stated: R24.) -/
def Obligations.ResetValues : Prop :=
  (∀ n : CellN,
    (State.resetFor n).current = 0x0000 ∧ (State.resetFor n).diff = 0x0000 ∧
    (State.resetFor n).axmask = none ∧ (State.resetFor n).val = none ∧
    (State.resetFor n).fault = .noFault ∧ (State.resetFor n).fcmd = 0x000000 ∧
    (State.resetFor n).res = 0x0000 ∧ (State.resetFor n).cellN = n) ∧
  (∃ n, State.reset = State.resetFor n)

/-- When the host asserts reset, every register takes its reset value whatever state the block was
in, halted or not; only the build parameter and the rest of the host's actions stay. (Stated: R170.)
-/
def Obligations.ResetFromEveryState : Prop :=
  ∀ (s : State) (rest : List HostAction), s.host = .reset :: rest →
    step s = .next
      { cellN := s.cellN, current := 0x0000, diff := 0x0000, axmask := none, val := none,
        fault := .noFault, fcmd := 0x000000, res := 0x0000, host := rest }

/-- If FAULT is not 0 and a step leaves FAULT or FCMD different from what they were, then the host's
action was reset: no command clears or overwrites a recorded fault. (Stated: R159.) -/
def Obligations.OnlyResetLeavesAFault : Prop :=
  ∀ s t : State, s.fault ≠ .noFault → step s = .next t → (t.fault ≠ s.fault ∨ t.fcmd ≠ s.fcmd) →
    ∃ rest, s.host = .reset :: rest ∧ t = { State.resetFor s.cellN with host := rest }

/-- NORM raw, word 0x000000 + raw, returns 0xFFFF - raw, which is the complement of raw and raw XOR
0xFFFF, and changes nothing else; a halted block ignores it. (Stated: R60.) -/
def Obligations.NormReturnsComplement : Prop :=
  ∀ raw : Bitmask,
    CommandRule (wordOf 0x000000 raw) (.norm raw) (fun s => { s with res := 0xFFFF - raw }) ∧
    0xFFFF - raw = ~~~raw ∧ 0xFFFF - raw = raw ^^^ 0xFFFF

/-- The normalization applied twice gives the value back, each of its 16 bits is the complement of
the same bit of the raw value, a raw value with reserved bits 0 gives them all 1 and one with
reserved bits all 1 gives them 0 (an inference the spec marks as its own: R62 is "[derived: from
rule R61]"). (Derived: 40_rawinput.md section 1.) -/
def Obligations.NormIsBitwiseInvolution : Prop :=
  ∀ r : Bitmask, normRaw (normRaw r) = r ∧
    (∀ i, i < 16 → (normRaw r).getLsbD i = !r.getLsbD i) ∧
    (r &&& reservedMask = 0 → normRaw r &&& reservedMask = reservedMask) ∧
    (r &&& reservedMask = reservedMask → normRaw r &&& reservedMask = 0)

/-- SNAP.A to SNAP.L, word 0x100000 + b to 0x190000 + b, return 0x0001 when the bit of weight 0x0001
to 0x0200 is set in the operand and 0x0000 otherwise, and change nothing else; a halted block
ignores them. (Stated: R67, R68, R69, R70, R71, R72, R73, R74, R75, R76.) -/
def Obligations.SnapButtonsTestOneBit : Prop :=
  ∀ b : Bitmask,
    CommandRule (wordOf 0x100000 b) (.snapA b)
      (fun s => { s with res := if b &&& 0x0001 ≠ 0 then 0x0001 else 0x0000 }) ∧
    CommandRule (wordOf 0x110000 b) (.snapB b)
      (fun s => { s with res := if b &&& 0x0002 ≠ 0 then 0x0001 else 0x0000 }) ∧
    CommandRule (wordOf 0x120000 b) (.snapSelect b)
      (fun s => { s with res := if b &&& 0x0004 ≠ 0 then 0x0001 else 0x0000 }) ∧
    CommandRule (wordOf 0x130000 b) (.snapStart b)
      (fun s => { s with res := if b &&& 0x0008 ≠ 0 then 0x0001 else 0x0000 }) ∧
    CommandRule (wordOf 0x140000 b) (.snapRight b)
      (fun s => { s with res := if b &&& 0x0010 ≠ 0 then 0x0001 else 0x0000 }) ∧
    CommandRule (wordOf 0x150000 b) (.snapLeft b)
      (fun s => { s with res := if b &&& 0x0020 ≠ 0 then 0x0001 else 0x0000 }) ∧
    CommandRule (wordOf 0x160000 b) (.snapUp b)
      (fun s => { s with res := if b &&& 0x0040 ≠ 0 then 0x0001 else 0x0000 }) ∧
    CommandRule (wordOf 0x170000 b) (.snapDown b)
      (fun s => { s with res := if b &&& 0x0080 ≠ 0 then 0x0001 else 0x0000 }) ∧
    CommandRule (wordOf 0x180000 b) (.snapR b)
      (fun s => { s with res := if b &&& 0x0100 ≠ 0 then 0x0001 else 0x0000 }) ∧
    CommandRule (wordOf 0x190000 b) (.snapL b)
      (fun s => { s with res := if b &&& 0x0200 ≠ 0 then 0x0001 else 0x0000 })

/-- SNAP.AXISX, word 0x1A0000 + b, returns 0x0001 for Right alone, 0xFFFF for Left alone and 0x0000
for neither or both; SNAP.AXISY, word 0x1B0000 + b, does the same for Up and Down; nothing else
changes and a halted block ignores them. The axis function has this truth table for every pair of
bits. (Stated: R77, R78, R92.) -/
def Obligations.SnapAxesCancel : Prop :=
  (∀ b : Bitmask,
    CommandRule (wordOf 0x1A0000 b) (.snapAxisx b)
      (fun s => { s with res := axisTable (decide (b &&& 0x0010 ≠ 0)) (decide (b &&& 0x0020 ≠ 0)) }) ∧
    CommandRule (wordOf 0x1B0000 b) (.snapAxisy b)
      (fun s => { s with res := axisTable (decide (b &&& 0x0040 ≠ 0)) (decide (b &&& 0x0080 ≠ 0)) })) ∧
  (∀ (b : Bitmask) (p n : Nat),
    axisResult (axis b p n) = axisTable (b.getLsbD p) (b.getLsbD n))

/-- SNAPR.A to SNAPR.L, word 0x200000 + raw to 0x290000 + raw, return 0x0001 when the bit of weight
0x0001 to 0x0200 is 0 in the raw operand and 0x0000 otherwise, and change nothing else; a halted
block ignores them. (Stated: R80, R81, R82, R83, R84, R85, R86, R87, R88, R89.) -/
def Obligations.SnaprButtonsTestRawBitClear : Prop :=
  ∀ raw : Bitmask,
    CommandRule (wordOf 0x200000 raw) (.snaprA raw)
      (fun s => { s with res := if raw &&& 0x0001 = 0 then 0x0001 else 0x0000 }) ∧
    CommandRule (wordOf 0x210000 raw) (.snaprB raw)
      (fun s => { s with res := if raw &&& 0x0002 = 0 then 0x0001 else 0x0000 }) ∧
    CommandRule (wordOf 0x220000 raw) (.snaprSelect raw)
      (fun s => { s with res := if raw &&& 0x0004 = 0 then 0x0001 else 0x0000 }) ∧
    CommandRule (wordOf 0x230000 raw) (.snaprStart raw)
      (fun s => { s with res := if raw &&& 0x0008 = 0 then 0x0001 else 0x0000 }) ∧
    CommandRule (wordOf 0x240000 raw) (.snaprRight raw)
      (fun s => { s with res := if raw &&& 0x0010 = 0 then 0x0001 else 0x0000 }) ∧
    CommandRule (wordOf 0x250000 raw) (.snaprLeft raw)
      (fun s => { s with res := if raw &&& 0x0020 = 0 then 0x0001 else 0x0000 }) ∧
    CommandRule (wordOf 0x260000 raw) (.snaprUp raw)
      (fun s => { s with res := if raw &&& 0x0040 = 0 then 0x0001 else 0x0000 }) ∧
    CommandRule (wordOf 0x270000 raw) (.snaprDown raw)
      (fun s => { s with res := if raw &&& 0x0080 = 0 then 0x0001 else 0x0000 }) ∧
    CommandRule (wordOf 0x280000 raw) (.snaprR raw)
      (fun s => { s with res := if raw &&& 0x0100 = 0 then 0x0001 else 0x0000 }) ∧
    CommandRule (wordOf 0x290000 raw) (.snaprL raw)
      (fun s => { s with res := if raw &&& 0x0200 = 0 then 0x0001 else 0x0000 })

/-- SNAPR.AXISX, word 0x2A0000 + raw, returns 0x0001 when raw bit 4 is 0 and bit 5 is 1, 0xFFFF when
bit 4 is 1 and bit 5 is 0, and 0x0000 when the two are equal; SNAPR.AXISY, word 0x2B0000 + raw, does
the same with bits 6 and 7; nothing else changes and a halted block ignores them. (Stated: R90,
R91.) -/
def Obligations.SnaprAxesOfRawValue : Prop :=
  ∀ raw : Bitmask,
    CommandRule (wordOf 0x2A0000 raw) (.snaprAxisx raw)
      (fun s => { s with res := axisTable (decide (raw &&& 0x0010 = 0)) (decide (raw &&& 0x0020 = 0)) }) ∧
    CommandRule (wordOf 0x2B0000 raw) (.snaprAxisy raw)
      (fun s => { s with res := axisTable (decide (raw &&& 0x0040 = 0)) (decide (raw &&& 0x0080 = 0)) })

/-- In every state each of the twelve SNAPR commands on a raw operand gives exactly what the SNAP
command of the same name gives on 0xFFFF - raw. (Stated: R79.) -/
def Obligations.SnaprIsSnapOfComplement : Prop :=
  ∀ (raw : Bitmask) (s : State),
    exec (.snaprA raw) s = exec (.snapA (0xFFFF - raw)) s ∧
    exec (.snaprB raw) s = exec (.snapB (0xFFFF - raw)) s ∧
    exec (.snaprSelect raw) s = exec (.snapSelect (0xFFFF - raw)) s ∧
    exec (.snaprStart raw) s = exec (.snapStart (0xFFFF - raw)) s ∧
    exec (.snaprRight raw) s = exec (.snapRight (0xFFFF - raw)) s ∧
    exec (.snaprLeft raw) s = exec (.snapLeft (0xFFFF - raw)) s ∧
    exec (.snaprUp raw) s = exec (.snapUp (0xFFFF - raw)) s ∧
    exec (.snaprDown raw) s = exec (.snapDown (0xFFFF - raw)) s ∧
    exec (.snaprR raw) s = exec (.snapR (0xFFFF - raw)) s ∧
    exec (.snaprL raw) s = exec (.snapL (0xFFFF - raw)) s ∧
    exec (.snaprAxisx raw) s = exec (.snapAxisx (0xFFFF - raw)) s ∧
    exec (.snaprAxisy raw) s = exec (.snapAxisy (0xFFFF - raw)) s

/-- For every command of units SNAP and SNAPR there is one result, the same for every state of a
running block, with which it completes, and it changes no register of any unit, the tracker
included. (Stated: R65.) -/
def Obligations.SnapUnitsArePure : Prop :=
  ∀ i : Instr, i.unit = 0x1 ∨ i.unit = 0x2 →
    ∃ r : Bitmask, ∀ s : State, s.fault = .noFault → exec i s = .next { s with res := r }

/-- Two commands of unit SNAP or SNAPR with the same function code whose operands agree on bits 0 to
9 do the same in every state (an inference the spec marks as its own: R93 is "[derived: from rules
R66 and R92]"). (Derived: 41_snapshot.md section 1.) -/
def Obligations.SnapUnitsIgnoreReservedBits : Prop :=
  ∀ (i j : Instr) (s : State), i.unit = 0x1 ∨ i.unit = 0x2 → j.unit = i.unit → j.fn = i.fn →
    i.imm &&& assignedMask = j.imm &&& assignedMask → exec i s = exec j s

/-- TRK.UPDATE raw, word 0x300000 + raw, computes n = 0xFFFF - raw and d = CURRENT XOR n, writes n
to CURRENT when d is not 0 and leaves it otherwise, writes d to DIFF in any case, returns 0x0000 and
changes nothing else, AXMASK and its valid bit included; a halted block ignores it. (Stated: R101.)
-/
def Obligations.UpdateFoldsOneRawSample : Prop :=
  ∀ raw : Bitmask,
    CommandRule (wordOf 0x300000 raw) (.trkUpdate raw)
      (fun s =>
        { s with
          current := if s.current ^^^ (0xFFFF - raw) ≠ 0x0000 then 0xFFFF - raw else s.current
          diff := s.current ^^^ (0xFFFF - raw)
          res := 0x0000 })

/-- After a TRK.UPDATE that is not ignored CURRENT is the complement of the operand whether or not
anything changed, DIFF is the XOR of CURRENT before and after, and bit i of DIFF is 1 exactly when
line i differed (an inference the spec marks as its own: R21 is "[derived: from 42_eventtracker.md
rule R101 ...]"). (Derived: 10_state.md section 3, 42_eventtracker.md section 2.) -/
def Obligations.CurrentFollowsTheRawValue : Prop :=
  ∀ (raw : Bitmask) (s : State), s.fault = .noFault →
    ∃ t : State, exec (.trkUpdate raw) s = .next t ∧ t.current = ~~~raw ∧
      t.diff = s.current ^^^ t.current ∧
      ∀ i, i < 16 → (t.diff.getLsbD i = true ↔ s.current.getLsbD i = raw.getLsbD i)

/-- TRK.PRESSED k, word 0x310000 + k, returns 0x0001 exactly when every bit of k is set in CURRENT;
TRK.RELEASED k, word 0x320000 + k, exactly when none is; otherwise 0x0000; neither changes anything
else and a halted block ignores both. The formula of the rules covers the empty key too, where it
gives 0x0001 (93_implementation_defined.md U6). (Stated: R102, R103.) -/
def Obligations.LevelQueriesTestCurrent : Prop :=
  ∀ k : Bitmask,
    CommandRule (wordOf 0x310000 k) (.trkPressed k)
      (fun s => { s with res := if ∀ i : Fin 16, k.getLsbD i = true → s.current.getLsbD i = true then 0x0001 else 0x0000 }) ∧
    CommandRule (wordOf 0x320000 k) (.trkReleased k)
      (fun s => { s with res := if ∀ i : Fin 16, k.getLsbD i = true → s.current.getLsbD i = false then 0x0001 else 0x0000 })

/-- TRK.DOWN k, word 0x330000 + k, returns 0x0001 exactly when every bit of k is set in DIFF and in
CURRENT; TRK.UP k, word 0x340000 + k, exactly when every bit of k is set in DIFF and clear in
CURRENT; otherwise 0x0000; neither changes anything else, so the edge is not consumed, and a halted
block ignores both. The formula of the rules covers the empty key too, where it gives 0x0001
(93_implementation_defined.md U6). (Stated: R104, R105.) -/
def Obligations.EdgeQueriesTestDiffAndCurrent : Prop :=
  ∀ k : Bitmask,
    CommandRule (wordOf 0x330000 k) (.trkDown k)
      (fun s => { s with res := if ∀ i : Fin 16, k.getLsbD i = true → s.diff.getLsbD i = true ∧ s.current.getLsbD i = true then 0x0001 else 0x0000 }) ∧
    CommandRule (wordOf 0x340000 k) (.trkUp k)
      (fun s => { s with res := if ∀ i : Fin 16, k.getLsbD i = true → s.diff.getLsbD i = true ∧ s.current.getLsbD i = false then 0x0001 else 0x0000 })

/-- In every running state TRK.PRESSED, TRK.RELEASED, TRK.DOWN and TRK.UP with key 0x0000 return
0x0001; the spec marks this as its own inference, "[derived: the source's `all bits of k` over an
empty set]" (decision D23, log entry 5). (Derived: 93_implementation_defined.md part 1,
92_eei_decisions.md.) -/
def Obligations.EmptyKeyAnswersTrue : Prop :=
  ∀ s : State, s.fault = .noFault →
    exec (.trkPressed 0x0000) s = .next { s with res := 0x0001 } ∧
    exec (.trkReleased 0x0000) s = .next { s with res := 0x0001 } ∧
    exec (.trkDown 0x0000) s = .next { s with res := 0x0001 } ∧
    exec (.trkUp 0x0000) s = .next { s with res := 0x0001 }

/-- TRK.AXCHG, word 0x350000, returns 0x0001, latches bits 7 to 4 of CURRENT in AXMASK and sets its
valid bit when one of bits 4 to 7 of DIFF is set; otherwise it returns 0x0000 and leaves AXMASK and
its valid bit; it changes nothing else, a halted block ignores it, and the word with any other
operand is illegal. (Stated: R106.) -/
def Obligations.AxisChangeLatchesTheLevel : Prop :=
  CommandRule 0x350000 .trkAxchg
    (fun s =>
      if ∃ i : Fin 16, 4 ≤ i.val ∧ i.val ≤ 7 ∧ s.diff.getLsbD i = true then
        { s with axmask := some (s.current.extractLsb' 4 4), res := 0x0001 }
      else { s with res := 0x0000 }) ∧
  (∀ (n : CellN) (imm : Bitmask), imm ≠ 0 → decode n (wordOf 0x350000 imm) = none)

/-- CURRENT and DIFF are 0x0000 after reset; of all 43 commands only TRK.UPDATE changes CURRENT or
DIFF, the four key queries change nothing but the result port, TRK.AXCHG changes only AXMASK and its
valid bit, and all six always complete without a fault. (Stated: R100.) -/
def Obligations.TrackerWriters : Prop :=
  (∀ n : CellN, (State.resetFor n).current = 0x0000 ∧ (State.resetFor n).diff = 0x0000) ∧
  (∀ (i : Instr) (s t : State), exec i s = .next t → t.current ≠ s.current ∨ t.diff ≠ s.diff →
    ∃ raw, i = .trkUpdate raw) ∧
  (∀ (k : Bitmask) (i : Instr) (s : State),
    i = .trkPressed k ∨ i = .trkReleased k ∨ i = .trkDown k ∨ i = .trkUp k →
    ∃ r, exec i s = .next { s with res := r }) ∧
  (∀ s : State, ∃ m r, exec .trkAxchg s = .next { s with axmask := m, res := r }) ∧
  (∀ (raw : Bitmask) (s : State), ∃ c d r,
    exec (.trkUpdate raw) s = .next { s with current := c, diff := d, res := r })

/-- In every running state, for every key: the four queries complete with booleans; DOWN true
implies PRESSED true, UP true implies RELEASED true; for a non-empty key DOWN and UP are never both
true nor PRESSED and RELEASED; for a one-bit key exactly one of PRESSED and RELEASED is true
(inferences the spec marks as its own: R107 is "[derived: from rules R101 to R106]"). (Derived:
42_eventtracker.md section 6.) -/
def Obligations.QueryRelations : Prop :=
  ∀ (s : State) (k : Bitmask), s.fault = .noFault → ∃ p r d u : Bool,
    exec (.trkPressed k) s = .next { s with res := if p then 0x0001 else 0x0000 } ∧
    exec (.trkReleased k) s = .next { s with res := if r then 0x0001 else 0x0000 } ∧
    exec (.trkDown k) s = .next { s with res := if d then 0x0001 else 0x0000 } ∧
    exec (.trkUp k) s = .next { s with res := if u then 0x0001 else 0x0000 } ∧
    (d = true → p = true) ∧ (u = true → r = true) ∧
    (k ≠ 0x0000 → ¬ (d = true ∧ u = true) ∧ ¬ (p = true ∧ r = true)) ∧
    (∀ i, i < 16 → k = 0x0001#16 <<< i → p = !r)

/-- In every running state, for each of the 16 bits: exactly one of DOWN and UP with the one-bit key
is true when the bit of DIFF is 1, both are false when it is 0, and PRESSED is true exactly when the
bit of CURRENT is 1 (an inference the spec marks as its own: R23 is "[derived: from
42_eventtracker.md rules R102 to R106]"). (Derived: 10_state.md section 6.) -/
def Obligations.OneBitKeysReadDiff : Prop :=
  ∀ (s : State) (i : Nat), s.fault = .noFault → i < 16 → ∃ d u : Bool,
    exec (.trkDown (0x0001#16 <<< i)) s = .next { s with res := if d then 0x0001 else 0x0000 } ∧
    exec (.trkUp (0x0001#16 <<< i)) s = .next { s with res := if u then 0x0001 else 0x0000 } ∧
    exec (.trkPressed (0x0001#16 <<< i)) s =
      .next { s with res := if s.current.getLsbD i then 0x0001 else 0x0000 } ∧
    (s.diff.getLsbD i = true → d = !u) ∧ (s.diff.getLsbD i = false → d = false ∧ u = false)

/-- If one update is followed by another with the same operand, and between them CURRENT has not
changed, then after the second DIFF is 0x0000, CURRENT is as after the first, DOWN and UP are false
for every non-empty key, and TRK.AXCHG is false and leaves AXMASK (an inference the spec marks as
its own: R107(d) is "[derived: from rules R101 to R106]"). (Derived: 42_eventtracker.md sections 2
and 6.) -/
def Obligations.RepeatedUpdateHasNoEdge : Prop :=
  ∀ (raw k : Bitmask) (s t t' u : State), s.fault = .noFault → t'.fault = .noFault →
    exec (.trkUpdate raw) s = .next t → t'.current = t.current →
    exec (.trkUpdate raw) t' = .next u →
    u.diff = 0x0000 ∧ u.current = t.current ∧
    (k ≠ 0x0000 → exec (.trkDown k) u = .next { u with res := 0x0000 } ∧
      exec (.trkUp k) u = .next { u with res := 0x0000 }) ∧
    exec .trkAxchg u = .next { u with res := 0x0000 }

/-- From reset, after one TRK.UPDATE, CURRENT and DIFF both are the complement of the operand;
TRK.DOWN of each named flag is true exactly when its raw bit is 0; and TRK.AXCHG is true, with the
level latched, when any direction is held (an inference the spec marks as its own: R180 is
"[derived: ...]"). (Derived: 70_reset_and_hazards.md section 3.) -/
def Obligations.FirstUpdateShowsHeldLinesAsEdges : Prop :=
  ∀ (n : CellN) (raw : Bitmask), ∃ t : State,
    exec (.trkUpdate raw) (State.resetFor n) = .next t ∧ t.current = ~~~raw ∧ t.diff = ~~~raw ∧
    (∀ ln : Line, exec (.trkDown ln.flag) t =
      .next { t with res := if raw.getLsbD ln.index then 0x0000 else 0x0001 }) ∧
    (~~~raw &&& dpadMask ≠ 0 →
      exec .trkAxchg t =
        .next { t with axmask := some ((~~~raw).extractLsb' 4 4), res := 0x0001 })

/-- Two running states and two raw values that agree at bit i give tracker registers that agree at
bit i after the update; and two states whose CURRENT and DIFF agree under the key give the same
answer to each key query (an inference the spec marks as its own: R108 is "[derived: from rules R101
to R106]"). (Derived: 42_eventtracker.md section 1.) -/
def Obligations.TrackerLinesAreIndependent : Prop :=
  (∀ (s t : State) (r r' : Bitmask) (i : Nat), i < 16 → s.fault = .noFault → t.fault = .noFault →
    s.current.getLsbD i = t.current.getLsbD i → r.getLsbD i = r'.getLsbD i →
    ∃ s' t' : State, exec (.trkUpdate r) s = .next s' ∧ exec (.trkUpdate r') t = .next t' ∧
      s'.current.getLsbD i = t'.current.getLsbD i ∧ s'.diff.getLsbD i = t'.diff.getLsbD i) ∧
  (∀ (s t : State) (k : Bitmask), s.fault = .noFault → t.fault = .noFault →
    s.current &&& k = t.current &&& k → s.diff &&& k = t.diff &&& k →
    ∀ i : Instr, i = .trkPressed k ∨ i = .trkReleased k ∨ i = .trkDown k ∨ i = .trkUp k →
      ∃ r : Bitmask, exec i s = .next { s with res := r } ∧ exec i t = .next { t with res := r })

/-- Take two runs of any length from states that agree but for the reserved bits of CURRENT and
DIFF, in which the host does the same except that the raw values of updates may differ in their
reserved bits, and every query key has only assigned bits: after every number of steps the two
states again agree but for the reserved bits of CURRENT and DIFF, so every result, AXMASK, VAL,
FAULT and FCMD is the same (an inference the spec marks as its own: R181 is "[derived: from the
rules cited]"). (Derived: 70_reset_and_hazards.md section 3, 93_implementation_defined.md part 1.)
-/
def Obligations.ReservedBitsNeverReachTheHost : Prop :=
  ∀ (k : Nat) (s t : State), sameButReserved s t → List.Forall₂ SameButReservedRaw s.host t.host →
    ∃ s' t' : State, core.run k s = .next s' ∧ core.run k t = .next t' ∧ sameButReserved s' t' ∧
      List.Forall₂ SameButReservedRaw s'.host t'.host

/-- CELL.SETB t, word 0x400000 + t, writes 0 or 1 over all bits of VAL whatever they held, sets
VALV, returns 0x0000 and changes nothing else; a halted block ignores it; the word with an operand
above 1 is illegal. (Stated: R123.) -/
def Obligations.SetbWritesTruthValue : Prop :=
  CommandRule 0x400000 (.cellSetb false) (fun s => { s with val := some 0, res := 0x0000 }) ∧
  CommandRule 0x400001 (.cellSetb true) (fun s => { s with val := some 1, res := 0x0000 }) ∧
  (∀ (n : CellN) (imm : Bitmask), 1 < imm.toNat → decode n (wordOf 0x400000 imm) = none)

/-- CELL.GET, word 0x410000, returns VAL as it is, padding included, when VALV is 1, and changes
nothing else; when VALV is 0 it raises CellUnwritten with its word in FCMD; a halted block ignores
it; the word with any other operand is illegal. (Stated: R124.) -/
def Obligations.GetReturnsWholeCell : Prop :=
  (∀ n, decode n 0x410000 = some .cellGet) ∧
  (∀ (s : State) (v : BitVec 16), s.fault = .noFault → s.val = some v →
    exec .cellGet s = .next { s with res := v }) ∧
  (∀ s : State, s.fault = .noFault → s.val = none →
    exec .cellGet s =
      .next { s with fault := .cellUnwritten, fcmd := 0x410000, res := 0x0000 }) ∧
  (∀ s : State, s.fault ≠ .noFault → exec .cellGet s = .next { s with res := 0x0000 }) ∧
  (∀ (n : CellN) (imm : Bitmask), imm ≠ 0 → decode n (wordOf 0x410000 imm) = none)

/-- For every legal operand and every value of the cell, CELL.ADD, CELL.SUB and CELL.MUL write the
sum, the non-negative residue of the difference, and the product, modulo 2^CELL_W, change nothing
else and return 0x0000; an operand of 2^CELL_W or more makes the word illegal; a halted block
ignores them. (Stated: R125, R126, R127.) -/
def Obligations.CellAddSubMulWrap : Prop :=
  ∀ y : Bitmask,
    CellRule (wordOf 0x420000 y) (.cellAdd y) y (True)
      (fun W v => BitVec.ofNat 16 ((v.toNat + y.toNat) % 2 ^ W)) ∧
    CellRule (wordOf 0x430000 y) (.cellSub y) y (True)
      (fun W v => BitVec.ofNat 16 ((v.toNat + 2 ^ W - y.toNat) % 2 ^ W)) ∧
    CellRule (wordOf 0x440000 y) (.cellMul y) y (True)
      (fun W v => BitVec.ofNat 16 ((v.toNat * y.toNat) % 2 ^ W))

/-- For every legal non-zero operand and every value of the cell, CELL.DIV writes the floor quotient
and CELL.MOD the remainder, change nothing else and return 0x0000; with operand 0 both raise
CellDivideByZero, record their word and leave VAL; an operand of 2^CELL_W or more makes the word
illegal; a halted block ignores them. (Stated: R128, R129.) -/
def Obligations.CellDivModFloorOrFault : Prop :=
  (∀ y : Bitmask,
    CellRule (wordOf 0x450000 y) (.cellDiv y) y (y ≠ 0)
      (fun _ v => BitVec.ofNat 16 (v.toNat / y.toNat)) ∧
    CellRule (wordOf 0x460000 y) (.cellMod y) y (y ≠ 0)
      (fun _ v => BitVec.ofNat 16 (v.toNat % y.toNat))) ∧
  (∀ (s : State) (v : BitVec 16), s.fault = .noFault → s.val = some v →
      exec (.cellDiv 0) s =
        .next { s with fault := .cellDivideByZero, fcmd := 0x450000, res := 0x0000 }) ∧
  (∀ (s : State) (v : BitVec 16), s.fault = .noFault → s.val = some v →
      exec (.cellMod 0) s =
        .next { s with fault := .cellDivideByZero, fcmd := 0x460000, res := 0x0000 })

/-- For every legal operand and every value of the cell, CELL.SHL writes VAL * 2^y modulo 2^CELL_W
and CELL.SHR writes VAL div 2^y, both 0 when y is CELL_W or more, change nothing else and return
0x0000; an operand of 2^CELL_W or more makes the word illegal; a halted block ignores them. (Stated:
R130, R131.) -/
def Obligations.CellShiftsAreLogical : Prop :=
  ∀ y : Bitmask,
    CellRule (wordOf 0x470000 y) (.cellShl y) y (True)
      (fun W v => if W ≤ y.toNat then 0 else BitVec.ofNat 16 ((v.toNat * 2 ^ y.toNat) % 2 ^ W)) ∧
    CellRule (wordOf 0x480000 y) (.cellShr y) y (True)
      (fun W v => if W ≤ y.toNat then 0 else BitVec.ofNat 16 (v.toNat / 2 ^ y.toNat))

/-- For every legal operand and every value of the cell, CELL.AND, CELL.OR and CELL.XOR write the
bitwise AND, OR and exclusive OR of VAL and the operand, change nothing else and return 0x0000; an
operand of 2^CELL_W or more makes the word illegal; a halted block ignores them. (Stated: R132,
R133, R134.) -/
def Obligations.CellBitwiseOperations : Prop :=
  ∀ y : Bitmask,
    CellRule (wordOf 0x490000 y) (.cellAnd y) y (True)
      (fun _ v => v &&& y) ∧
    CellRule (wordOf 0x4A0000 y) (.cellOr y) y (True)
      (fun _ v => v ||| y) ∧
    CellRule (wordOf 0x4B0000 y) (.cellXor y) y (True)
      (fun _ v => v ^^^ y)

/-- While VALV is 0, a legal CELL.GET and every legal arithmetic command of a running block raises
CellUnwritten: FAULT becomes 2, FCMD the word, res 0x0000, and nothing else changes. (Stated: R155.)
-/
def Obligations.UnwrittenCellFaults : Prop :=
  ∀ s : State, s.fault = .noFault → s.val = none →
    exec .cellGet s =
      .next { s with fault := .cellUnwritten, fcmd := 0x410000, res := 0x0000 } ∧
    ∀ y : Bitmask, y.toNat < 2 ^ s.cellN.width → ∀ i : Instr,
      (i = .cellAdd y ∨ i = .cellSub y ∨ i = .cellMul y ∨ i = .cellDiv y ∨
       i = .cellMod y ∨ i = .cellShl y ∨ i = .cellShr y ∨ i = .cellAnd y ∨
       i = .cellOr y ∨ i = .cellXor y) →
      exec i s = .next { s with fault := .cellUnwritten, fcmd := encode i, res := 0x0000 }

/-- Whatever command runs in whatever state: RAW, SNAP and SNAPR change at most the result port; a
TRK command changes at most CURRENT, DIFF, AXMASK and the result port; a CELL command changes at
most VAL, FAULT, FCMD and the result port, never takes the value of a written cell away, and every
command leaves CELL_N and the host's actions alone. (Derived: R10, 10_state.md sections 3 to 5.) -/
def Obligations.UnitFrames : Prop :=
  ∀ (i : Instr) (s t : State), exec i s = .next t →
    (i.unit = 0x0 ∨ i.unit = 0x1 ∨ i.unit = 0x2 → t = { s with res := t.res }) ∧
    (i.unit = 0x3 →
      t = { s with current := t.current, diff := t.diff, axmask := t.axmask, res := t.res }) ∧
    (i.unit = 0x4 →
      t = { s with val := t.val, fault := t.fault, fcmd := t.fcmd, res := t.res } ∧
      (s.val.isSome → t.val.isSome)) ∧
    t.cellN = s.cellN ∧ t.host = s.host

/-- In a block with CELL_N = 1 whose cell holds 0 or 1: CELL.ADD 1, CELL.SUB 1 and CELL.XOR 1 toggle
it, CELL.MUL and CELL.AND give the same, CELL.SHL 1 and CELL.SHR 1 and CELL.MOD 1 clear it, CELL.DIV
1 leaves it, and an operand of 2 is illegal (inferences the spec marks as its own: R137 is
"[derived: from rules R122 to R134]"). (Derived: 43_packedbitcell.md section 4.) -/
def Obligations.OneBitCellLaws : Prop :=
  ∀ (s : State) (v : BitVec 16), s.cellN.val = 1 → s.fault = .noFault → s.val = some v → v ≤ 1 →
    exec (.cellAdd 1) s = .next { s with val := some (1 - v), res := 0x0000 } ∧
    exec (.cellSub 1) s = .next { s with val := some (1 - v), res := 0x0000 } ∧
    exec (.cellXor 1) s = .next { s with val := some (1 - v), res := 0x0000 } ∧
    (∀ y : Bitmask, y ≤ 1 →
      exec (.cellMul y) s = .next { s with val := some (v &&& y), res := 0x0000 } ∧
      exec (.cellAnd y) s = .next { s with val := some (v &&& y), res := 0x0000 }) ∧
    exec (.cellShl 1) s = .next { s with val := some 0, res := 0x0000 } ∧
    exec (.cellShr 1) s = .next { s with val := some 0, res := 0x0000 } ∧
    exec (.cellMod 1) s = .next { s with val := some 0, res := 0x0000 } ∧
    exec (.cellDiv 1) s = .next { s with res := 0x0000 } ∧
    decode s.cellN 0x420002 = none

/-- From every state whose cell has no value or holds 0 or 1 (reset among them), as long as the host
presents no CELL arithmetic command, after any number of steps the cell still has no value or holds
0 or 1, which fits in CELL_N bits for every CELL_N, so every padding bit is 0. (Stated: R136.) -/
def Obligations.BooleanUseKeepsPaddingZero : Prop :=
  ∀ (k : Nat) (s t : State), s.cellBoolean → noCellArith s.host → core.run k s = .next t →
    t.cellBoolean ∧
    ∀ v, t.val = some v → v.toNat < 2 ^ t.cellN.val ∧
      ∀ i, t.cellN.val ≤ i → v.getLsbD i = false

/-- The output port fault_q shows 0 while no fault is recorded and 1, 2, 3 for IllegalCommand,
CellUnwritten and CellDivideByZero; fcmd_q, res and the axis mask with its valid bit show the
registers. (Derived: R18, R25.) -/
def Obligations.FaultPortShowsTheCode : Prop :=
  ∀ s : State,
    (s.fault = .noFault → (outputs s).faultQ = 0) ∧
    (s.fault = .illegalCommand → (outputs s).faultQ = 1) ∧
    (s.fault = .cellUnwritten → (outputs s).faultQ = 2) ∧
    (s.fault = .cellDivideByZero → (outputs s).faultQ = 3) ∧
    (outputs s).fcmdQ = s.fcmd ∧ (outputs s).res = s.res ∧
    ((outputs s).axmaskV = true ↔ ∃ m, s.axmask = some m ∧ (outputs s).axmaskQ = some m)

/-- While FAULT is not 0 every command, legal or not, changes no register and gives res 0x0000; and
any number of commands presented to a halted block leaves every register as it was, the result port
being 0x0000. (Stated: R153.) -/
def Obligations.HaltedBlockIgnoresEveryCommand : Prop :=
  (∀ (i : Instr) (s : State), s.fault ≠ .noFault → exec i s = .next { s with res := 0x0000 }) ∧
  (∀ (ws : List CommandWord) (rest : List HostAction) (s : State), s.fault ≠ .noFault → ws ≠ [] →
    s.host = ws.map .command ++ rest →
    core.run ws.length s = .next { s with host := rest, res := 0x0000 })

/-- If a running block takes a word and ends the step with a fault recorded, then FAULT holds the
code, FCMD the very word presented, res is 0x0000, and every other register is unchanged. (Stated:
R152.) -/
def Obligations.FaultEntryIsPrecise : Prop :=
  ∀ (s t : State) (w : CommandWord) (rest : List HostAction), s.host = .command w :: rest →
    s.fault = .noFault → step s = .next t → t.fault ≠ .noFault →
    t = { s with host := rest, fault := t.fault, fcmd := w, res := 0x0000 }

/-- For every state and every word presented the step completes, and FAULT afterwards is: what it
was, if the block was halted; IllegalCommand, if the word is illegal; CellUnwritten, if it is
CELL.GET or an arithmetic command and VALV is 0; CellDivideByZero, if it is CELL.DIV or CELL.MOD
with operand 0; and 0 in every other case; FCMD is the word exactly when a fault was raised and
unchanged otherwise. (Stated: R151, R154, R156, R158.) -/
def Obligations.FaultCausesAndPriority : Prop :=
  ∀ (s : State) (w : CommandWord) (rest : List HostAction), s.host = .command w :: rest →
    ∃ t : State, step s = .next t ∧
      (s.fault.code ≠ 0 → t.fault = s.fault ∧ t.fcmd = s.fcmd) ∧
      (s.fault.code = 0 →
        (¬ legalWord s.cellN w → t.fault.code = 1 ∧ t.fcmd = w) ∧
        (legalWord s.cellN w → w.unit = 0x4 → w.fn ≠ 0x0 → s.val = none →
          t.fault.code = 2 ∧ t.fcmd = w) ∧
        (legalWord s.cellN w → w.unit = 0x4 → w.fn = 0x5 ∨ w.fn = 0x6 → w.imm = 0 →
          s.val ≠ none → t.fault.code = 3 ∧ t.fcmd = w) ∧
        (legalWord s.cellN w → (w.unit = 0x4 → w.fn ≠ 0x0 → s.val ≠ none) →
          (w.unit = 0x4 → w.fn = 0x5 ∨ w.fn = 0x6 → w.imm ≠ 0) →
          t.fault.code = 0 ∧ t.fcmd = s.fcmd))

/-- From every state in which VAL, if it has a value, is below 2^CELL_W and FCMD is 0x000000 while
FAULT is 0, every step, whatever the host does, leads to such a state of a block with the same
CELL_N. (Derived: R16, R19.) -/
def Obligations.RegistersStayConsistent : Prop :=
  ∀ s t : State, s.registersConsistent → step s = .next t →
    t.registersConsistent ∧ t.cellN = s.cellN

/-- The state after reset of every block meets the invariant that VAL fits CELL_W bits and FCMD is
0x000000 while FAULT is 0. (Derived: R24.) -/
def Obligations.ResetIsConsistent : Prop :=
  (∀ n : CellN, (State.resetFor n).registersConsistent) ∧ State.reset.registersConsistent

/-- NORM, the SNAP and SNAPR commands, the four key queries, TRK.AXCHG, CELL.SETB, CELL.GET,
CELL.AND, CELL.OR and CELL.MOD leave, when repeated, the very state they left the first time;
TRK.UPDATE repeated by a running block leaves CURRENT and sets DIFF to 0. (Derived: 20_memory.md
section 2 (R34).) -/
def Obligations.IdempotentCommands : Prop :=
  (∀ (i : Instr) (s t : State), exec i s = .next t →
    i.unit = 0x0 ∨ i.unit = 0x1 ∨ i.unit = 0x2 ∨ (i.unit = 0x3 ∧ i.fn ≠ 0x0) ∨
      (i.unit = 0x4 ∧ (i.fn ≤ 0x1 ∨ i.fn = 0x6 ∨ i.fn = 0x9 ∨ i.fn = 0xA)) →
    exec i t = .next t) ∧
  (∀ (raw : Bitmask) (s t : State), s.fault = .noFault → exec (.trkUpdate raw) s = .next t →
    exec (.trkUpdate raw) t = .next { t with diff := 0x0000 })

/-- TRK.UPDATEN v is TRK.UPDATE (0xFFFF - v), so it gives an update by its normalized value;
CELL.SETT and CELL.SETF are CELL.SETB 1 and 0; CELL.INC and CELL.DEC are CELL.ADD 1 and CELL.SUB 1;
the words are those the block sees. (Stated: R53.) -/
def Obligations.PseudoInstructionsExpand : Prop :=
  (∀ v : Bitmask, (Pseudo.updaten v).expand = .trkUpdate (0xFFFF - v) ∧
    encode (Pseudo.updaten v).expand = wordOf 0x300000 (0xFFFF - v) ∧ normRaw (0xFFFF - v) = v) ∧
  Pseudo.sett.expand = .cellSetb true ∧ encode Pseudo.sett.expand = 0x400001 ∧
  Pseudo.setf.expand = .cellSetb false ∧ encode Pseudo.setf.expand = 0x400000 ∧
  Pseudo.inc.expand = .cellAdd 1 ∧ encode Pseudo.inc.expand = 0x420001 ∧
  Pseudo.dec.expand = .cellSub 1 ∧ encode Pseudo.dec.expand = 0x430001

/-- Six lines have their command and their word in the spec's programs (95_test_vectors.md part 3:
P1 line 2, P4 line 11, P2 lines 20, 8 and 3, P3 line 3), the comment after the one from P4 being
added here. CELL.XOR 0b1111, TRK.UPDATEN 0x0001 and CELL.DEC stand in no program: they are instances
of the literal forms and pseudo-instructions of 30_encoding.md section 6, with the words its table
of pseudo-instructions and its encoding give. The model's choice (log entry 6, DESIGN CHOICE and
DEDUCED), and not the spec's words: the splitting at blanks, the parentheses after the complement
sign (read from P4), that a line with nothing but a comment assembles to no word, and that CELL.ADD
A, CELL.GET 0 and NORM without an operand assemble to nothing. (Derived: 30_encoding.md section 6,
95_test_vectors.md part 3.) -/
def Obligations.AssemblerReadsSpecLines : Prop :=
  assembleLine "TRK.UPDATE ~A".toList = some [0x30FFFE] ∧
  assembleLine "TRK.UPDATE ~(A|START)  # P4, line 11".toList = some [0x30FFF6] ∧
  assembleLine "TRK.UP A|RIGHT|LEFT".toList = some [0x340031] ∧
  assembleLine "CELL.ADD 14".toList = some [0x42000E] ∧
  assembleLine "SNAPR.AXISX 0x03EF".toList = some [0x2A03EF] ∧
  assembleLine "CELL.XOR 0b1111".toList = some [0x4B000F] ∧
  assembleLine "TRK.AXCHG".toList = some [0x350000] ∧
  assembleLine "TRK.UPDATEN 0x0001".toList = some [0x30FFFE] ∧
  assembleLine "CELL.DEC".toList = some [0x430001] ∧
  assembleLine "  # nothing".toList = some [] ∧
  assembleLine "CELL.ADD A".toList = none ∧ assembleLine "CELL.GET 0".toList = none ∧
  assembleLine "NORM".toList = none
end

