-- ==== Sys2Proof/Laws/Encoding.lean ====
section
/-!
SUPPORT. The fields of a word built from its fields, words written as a base plus an operand, and the
widths of the cell.
-/

namespace Sys2Proof

/-- A word as a number (30_encoding.md R41). -/
theorem toNat_ofFields (u f : BitVec 4) (imm : Bitmask) :
    (CommandWord.ofFields u f imm).toNat = u.toNat * 1048576 + f.toNat * 65536 + imm.toNat := by
  have hi : imm.toNat < 2 ^ 16 := imm.isLt
  have hf : f.toNat < 2 ^ 4 := f.isLt
  simp only [CommandWord.ofFields, BitVec.toNat_append]
  rw [← Nat.shiftLeft_add_eq_or_of_lt hi, ← Nat.shiftLeft_add_eq_or_of_lt hf]
  simp only [Nat.shiftLeft_eq]
  omega

theorem toNat_unit (w : CommandWord) : w.unit.toNat = w.toNat / 1048576 := by
  have := w.isLt
  simp only [CommandWord.unit, BitVec.extractLsb'_toNat, Nat.shiftRight_eq_div_pow]
  omega

theorem toNat_fn (w : CommandWord) : w.fn.toNat = w.toNat / 65536 % 16 := by
  simp only [CommandWord.fn, BitVec.extractLsb'_toNat, Nat.shiftRight_eq_div_pow]

theorem toNat_imm (w : CommandWord) : w.imm.toNat = w.toNat % 65536 := by
  simp only [CommandWord.imm, BitVec.extractLsb'_toNat, Nat.shiftRight_eq_div_pow]
  omega

@[simp] theorem unit_ofFields (u f : BitVec 4) (imm : Bitmask) :
    (CommandWord.ofFields u f imm).unit = u := by
  have := imm.isLt; have := f.isLt; have := u.isLt
  apply BitVec.eq_of_toNat_eq
  rw [toNat_unit, toNat_ofFields]
  omega

@[simp] theorem fn_ofFields (u f : BitVec 4) (imm : Bitmask) :
    (CommandWord.ofFields u f imm).fn = f := by
  have := imm.isLt; have := f.isLt; have := u.isLt
  apply BitVec.eq_of_toNat_eq
  rw [toNat_fn, toNat_ofFields]
  omega

@[simp] theorem imm_ofFields (u f : BitVec 4) (imm : Bitmask) :
    (CommandWord.ofFields u f imm).imm = imm := by
  have := imm.isLt
  apply BitVec.eq_of_toNat_eq
  rw [toNat_imm, toNat_ofFields]
  omega

/-- A word whose base has operand 0, plus an operand: the base's unit and function with the operand. -/
theorem base_add_operand (u f : BitVec 4) (imm : Bitmask) :
    CommandWord.ofFields u f 0 + imm.setWidth 24 = CommandWord.ofFields u f imm := by
  have := imm.isLt; have := f.isLt; have := u.isLt
  apply BitVec.eq_of_toNat_eq
  rw [BitVec.toNat_add, toNat_ofFields, toNat_ofFields, BitVec.toNat_setWidth]
  simp only [BitVec.toNat_ofNat, BitVec.ofNat_eq_ofNat, Nat.zero_mod, Nat.add_zero]
  omega

/-- Under the mask of formats V and C a word is its unit and function (30_encoding.md R45). -/
theorem ofFields_and_opcode (u f : BitVec 4) (imm : Bitmask) :
    CommandWord.ofFields u f imm &&& 0xFF0000 = CommandWord.ofFields u f 0 := by
  apply BitVec.eq_of_getLsbD_eq
  intro i hi
  have key : ∀ j : Fin 24, (0xFF0000 : BitVec 24).getLsbD j = decide (16 ≤ j.val) := by decide
  have := key ⟨i, hi⟩
  simp only [CommandWord.ofFields, BitVec.getLsbD_and, BitVec.getLsbD_append] at this ⊢
  rw [this]
  by_cases h : i < 16
  · have : ¬ 16 ≤ i := by omega
    simp [h, this]
  · have : 16 ≤ i := by omega
    simp [h, this]

/-- Decoding a word given by its fields. -/
theorem decode_ofFields (n : CellN) (u f : BitVec 4) (imm : Bitmask) :
    decode n (CommandWord.ofFields u f imm) =
      (decodeFields u.toNat f.toNat imm).filter (Instr.wellFormed n) := by
  simp [decode]

/-- Decoding gives well-formed commands only. -/
theorem wellFormed_of_decode {n : CellN} {w : CommandWord} {i : Instr} (h : decode n w = some i) :
    i.wellFormed n = true := by
  unfold decode at h
  exact (Option.filter_eq_some_iff.mp h).2

/-- The five rounded widths. -/
theorem width_cases (n : CellN) :
    n.width = 1 ∨ n.width = 2 ∨ n.width = 4 ∨ n.width = 8 ∨ n.width = 16 := by
  unfold CellN.width
  split_ifs <;> simp

/-- `2^CELL_W` is at most `2^16`: a cell value fits the 16-bit result. -/
theorem two_pow_width_le (n : CellN) : 2 ^ n.width ≤ 65536 := by
  obtain h | h | h | h | h := width_cases n <;> rw [h] <;> norm_num

theorem one_lt_two_pow_width (n : CellN) : 1 < 2 ^ n.width := by
  obtain h | h | h | h | h := width_cases n <;> rw [h] <;> norm_num

end Sys2Proof
end

