-- ==== Sys2Proof/Laws/State.lean ====
section
/-!
SUPPORT. What each named update of Machine/Ops.lean and Machine/Present.lean does to each field of the
state, one lemma per field.
-/

namespace Sys2Proof.Machine

@[simp] theorem finish_cellN (v : Bitmask) (s : State) : (finish v s).cellN = s.cellN := rfl
@[simp] theorem finish_current (v : Bitmask) (s : State) : (finish v s).current = s.current := rfl
@[simp] theorem finish_diff (v : Bitmask) (s : State) : (finish v s).diff = s.diff := rfl
@[simp] theorem finish_axmask (v : Bitmask) (s : State) : (finish v s).axmask = s.axmask := rfl
@[simp] theorem finish_val (v : Bitmask) (s : State) : (finish v s).val = s.val := rfl
@[simp] theorem finish_fault (v : Bitmask) (s : State) : (finish v s).fault = s.fault := rfl
@[simp] theorem finish_fcmd (v : Bitmask) (s : State) : (finish v s).fcmd = s.fcmd := rfl
@[simp] theorem finish_res (v : Bitmask) (s : State) : (finish v s).res = v := rfl
@[simp] theorem finish_host (v : Bitmask) (s : State) : (finish v s).host = s.host := rfl

@[simp] theorem writeCurrent_cellN (v : Bitmask) (s : State) : (writeCurrent v s).cellN = s.cellN := rfl
@[simp] theorem writeCurrent_current (v : Bitmask) (s : State) : (writeCurrent v s).current = v := rfl
@[simp] theorem writeCurrent_diff (v : Bitmask) (s : State) : (writeCurrent v s).diff = s.diff := rfl
@[simp] theorem writeCurrent_axmask (v : Bitmask) (s : State) : (writeCurrent v s).axmask = s.axmask := rfl
@[simp] theorem writeCurrent_val (v : Bitmask) (s : State) : (writeCurrent v s).val = s.val := rfl
@[simp] theorem writeCurrent_fault (v : Bitmask) (s : State) : (writeCurrent v s).fault = s.fault := rfl
@[simp] theorem writeCurrent_fcmd (v : Bitmask) (s : State) : (writeCurrent v s).fcmd = s.fcmd := rfl
@[simp] theorem writeCurrent_res (v : Bitmask) (s : State) : (writeCurrent v s).res = s.res := rfl
@[simp] theorem writeCurrent_host (v : Bitmask) (s : State) : (writeCurrent v s).host = s.host := rfl

@[simp] theorem writeDiff_cellN (v : Bitmask) (s : State) : (writeDiff v s).cellN = s.cellN := rfl
@[simp] theorem writeDiff_current (v : Bitmask) (s : State) : (writeDiff v s).current = s.current := rfl
@[simp] theorem writeDiff_diff (v : Bitmask) (s : State) : (writeDiff v s).diff = v := rfl
@[simp] theorem writeDiff_axmask (v : Bitmask) (s : State) : (writeDiff v s).axmask = s.axmask := rfl
@[simp] theorem writeDiff_val (v : Bitmask) (s : State) : (writeDiff v s).val = s.val := rfl
@[simp] theorem writeDiff_fault (v : Bitmask) (s : State) : (writeDiff v s).fault = s.fault := rfl
@[simp] theorem writeDiff_fcmd (v : Bitmask) (s : State) : (writeDiff v s).fcmd = s.fcmd := rfl
@[simp] theorem writeDiff_res (v : Bitmask) (s : State) : (writeDiff v s).res = s.res := rfl
@[simp] theorem writeDiff_host (v : Bitmask) (s : State) : (writeDiff v s).host = s.host := rfl

@[simp] theorem writeAxmask_cellN (m : AxisMask) (s : State) : (writeAxmask m s).cellN = s.cellN := rfl
@[simp] theorem writeAxmask_current (m : AxisMask) (s : State) : (writeAxmask m s).current = s.current := rfl
@[simp] theorem writeAxmask_diff (m : AxisMask) (s : State) : (writeAxmask m s).diff = s.diff := rfl
@[simp] theorem writeAxmask_axmask (m : AxisMask) (s : State) : (writeAxmask m s).axmask = some m := rfl
@[simp] theorem writeAxmask_val (m : AxisMask) (s : State) : (writeAxmask m s).val = s.val := rfl
@[simp] theorem writeAxmask_fault (m : AxisMask) (s : State) : (writeAxmask m s).fault = s.fault := rfl
@[simp] theorem writeAxmask_fcmd (m : AxisMask) (s : State) : (writeAxmask m s).fcmd = s.fcmd := rfl
@[simp] theorem writeAxmask_res (m : AxisMask) (s : State) : (writeAxmask m s).res = s.res := rfl
@[simp] theorem writeAxmask_host (m : AxisMask) (s : State) : (writeAxmask m s).host = s.host := rfl

@[simp] theorem writeVal_cellN (v : BitVec 16) (s : State) : (writeVal v s).cellN = s.cellN := rfl
@[simp] theorem writeVal_current (v : BitVec 16) (s : State) : (writeVal v s).current = s.current := rfl
@[simp] theorem writeVal_diff (v : BitVec 16) (s : State) : (writeVal v s).diff = s.diff := rfl
@[simp] theorem writeVal_axmask (v : BitVec 16) (s : State) : (writeVal v s).axmask = s.axmask := rfl
@[simp] theorem writeVal_val (v : BitVec 16) (s : State) : (writeVal v s).val = some v := rfl
@[simp] theorem writeVal_fault (v : BitVec 16) (s : State) : (writeVal v s).fault = s.fault := rfl
@[simp] theorem writeVal_fcmd (v : BitVec 16) (s : State) : (writeVal v s).fcmd = s.fcmd := rfl
@[simp] theorem writeVal_res (v : BitVec 16) (s : State) : (writeVal v s).res = s.res := rfl
@[simp] theorem writeVal_host (v : BitVec 16) (s : State) : (writeVal v s).host = s.host := rfl

@[simp] theorem raise_cellN (c : FaultCode) (w : CommandWord) (s : State) : (raise c w s).cellN = s.cellN := rfl
@[simp] theorem raise_current (c : FaultCode) (w : CommandWord) (s : State) : (raise c w s).current = s.current := rfl
@[simp] theorem raise_diff (c : FaultCode) (w : CommandWord) (s : State) : (raise c w s).diff = s.diff := rfl
@[simp] theorem raise_axmask (c : FaultCode) (w : CommandWord) (s : State) : (raise c w s).axmask = s.axmask := rfl
@[simp] theorem raise_val (c : FaultCode) (w : CommandWord) (s : State) : (raise c w s).val = s.val := rfl
@[simp] theorem raise_fault (c : FaultCode) (w : CommandWord) (s : State) : (raise c w s).fault = c := rfl
@[simp] theorem raise_fcmd (c : FaultCode) (w : CommandWord) (s : State) : (raise c w s).fcmd = w := rfl
@[simp] theorem raise_res (c : FaultCode) (w : CommandWord) (s : State) : (raise c w s).res = 0x0000 := rfl
@[simp] theorem raise_host (c : FaultCode) (w : CommandWord) (s : State) : (raise c w s).host = s.host := rfl

@[simp] theorem ignore_cellN (s : State) : (ignore s).cellN = s.cellN := rfl
@[simp] theorem ignore_current (s : State) : (ignore s).current = s.current := rfl
@[simp] theorem ignore_diff (s : State) : (ignore s).diff = s.diff := rfl
@[simp] theorem ignore_axmask (s : State) : (ignore s).axmask = s.axmask := rfl
@[simp] theorem ignore_val (s : State) : (ignore s).val = s.val := rfl
@[simp] theorem ignore_fault (s : State) : (ignore s).fault = s.fault := rfl
@[simp] theorem ignore_fcmd (s : State) : (ignore s).fcmd = s.fcmd := rfl
@[simp] theorem ignore_res (s : State) : (ignore s).res = 0x0000 := rfl
@[simp] theorem ignore_host (s : State) : (ignore s).host = s.host := rfl

@[simp] theorem applyReset_cellN (s : State) : (applyReset s).cellN = s.cellN := rfl
@[simp] theorem applyReset_current (s : State) : (applyReset s).current = 0x0000 := rfl
@[simp] theorem applyReset_diff (s : State) : (applyReset s).diff = 0x0000 := rfl
@[simp] theorem applyReset_axmask (s : State) : (applyReset s).axmask = none := rfl
@[simp] theorem applyReset_val (s : State) : (applyReset s).val = none := rfl
@[simp] theorem applyReset_fault (s : State) : (applyReset s).fault = .noFault := rfl
@[simp] theorem applyReset_fcmd (s : State) : (applyReset s).fcmd = 0x000000 := rfl
@[simp] theorem applyReset_res (s : State) : (applyReset s).res = 0x0000 := rfl
@[simp] theorem applyReset_host (s : State) : (applyReset s).host = s.host := rfl

@[simp] theorem presentNext_cellN (w : CommandWord) (s : State) : (presentNext w s).cellN = s.cellN := rfl
@[simp] theorem presentNext_current (w : CommandWord) (s : State) : (presentNext w s).current = s.current := rfl
@[simp] theorem presentNext_diff (w : CommandWord) (s : State) : (presentNext w s).diff = s.diff := rfl
@[simp] theorem presentNext_axmask (w : CommandWord) (s : State) : (presentNext w s).axmask = s.axmask := rfl
@[simp] theorem presentNext_val (w : CommandWord) (s : State) : (presentNext w s).val = s.val := rfl
@[simp] theorem presentNext_fault (w : CommandWord) (s : State) : (presentNext w s).fault = s.fault := rfl
@[simp] theorem presentNext_fcmd (w : CommandWord) (s : State) : (presentNext w s).fcmd = s.fcmd := rfl
@[simp] theorem presentNext_res (w : CommandWord) (s : State) : (presentNext w s).res = s.res := rfl
@[simp] theorem presentNext_host (w : CommandWord) (s : State) : (presentNext w s).host = .command w :: s.host := rfl

@[simp] theorem resetFor_current (n : CellN) : (State.resetFor n).current = 0x0000 := rfl
@[simp] theorem resetFor_diff (n : CellN) : (State.resetFor n).diff = 0x0000 := rfl
@[simp] theorem resetFor_axmask (n : CellN) : (State.resetFor n).axmask = none := rfl
@[simp] theorem resetFor_val (n : CellN) : (State.resetFor n).val = none := rfl
@[simp] theorem resetFor_fault (n : CellN) : (State.resetFor n).fault = .noFault := rfl
@[simp] theorem resetFor_fcmd (n : CellN) : (State.resetFor n).fcmd = 0x000000 := rfl
@[simp] theorem resetFor_res (n : CellN) : (State.resetFor n).res = 0x0000 := rfl
@[simp] theorem resetFor_host (n : CellN) : (State.resetFor n).host = [] := rfl
@[simp] theorem resetFor_cellN (n : CellN) : (State.resetFor n).cellN = n := rfl

end Sys2Proof.Machine
end

