-- ==== Sys2Proof/Laws/Ops.lean ====
section
/-!
SUPPORT. Everything each shared operation can do, said once.
-/

namespace Sys2Proof.Machine

theorem whenRunning_running {s : State} (effect : State → State) (h : s.fault = .noFault) :
    whenRunning effect s = effect s := if_pos h

theorem whenRunning_halted {s : State} (effect : State → State) (h : s.fault ≠ .noFault) :
    whenRunning effect s = ignore s := if_neg h

/-- An effect under the halt check either runs on a running block or is ignored by a halted one. -/
theorem whenRunning_cases (effect : State → State) (s : State) :
    (s.fault = .noFault ∧ whenRunning effect s = effect s) ∨
    (s.fault ≠ .noFault ∧ whenRunning effect s = ignore s) := by
  by_cases h : s.fault = .noFault
  · exact .inl ⟨h, whenRunning_running effect h⟩
  · exact .inr ⟨h, whenRunning_halted effect h⟩

/-- Reading the cell either finds no value and faults, or uses the value. -/
theorem readCell_cases (w : CommandWord) (use : BitVec 16 → State → State) (s : State) :
    (s.val = none ∧ readCell w use s = raise .cellUnwritten w s) ∨
    (∃ v, s.val = some v ∧ readCell w use s = use v s) := by
  unfold readCell
  cases h : s.val with
  | none => exact .inl ⟨rfl, rfl⟩
  | some v => exact .inr ⟨v, rfl, rfl⟩

/-- The four ends of a cell operation, in the order of 60_exceptions.md R158. -/
theorem cellOperation_cases (w : CommandWord) (y : Bitmask) (use : BitVec 16 → State → State)
    (s : State) :
    (s.fault ≠ .noFault ∧ cellOperation w y use s = ignore s) ∨
    (s.fault = .noFault ∧ 2 ^ s.cellN.width ≤ y.toNat ∧
      cellOperation w y use s = raise .illegalCommand w s) ∨
    (s.fault = .noFault ∧ y.toNat < 2 ^ s.cellN.width ∧ s.val = none ∧
      cellOperation w y use s = raise .cellUnwritten w s) ∨
    (s.fault = .noFault ∧ y.toNat < 2 ^ s.cellN.width ∧
      ∃ v, s.val = some v ∧ cellOperation w y use s = use v s) := by
  unfold cellOperation
  obtain ⟨h, e⟩ | ⟨h, e⟩ := whenRunning_cases
    (fun s => if operandFits s.cellN y then readCell w use s else raise .illegalCommand w s) s
  · by_cases hy : y.toNat < 2 ^ s.cellN.width
    · have e' : whenRunning (fun s => if operandFits s.cellN y then readCell w use s
          else raise .illegalCommand w s) s = readCell w use s := by
        rw [e]; exact if_pos (by simpa [operandFits] using hy)
      obtain ⟨hv, r⟩ | ⟨v, hv, r⟩ := readCell_cases w use s
      · exact .inr (.inr (.inl ⟨h, hy, hv, e'.trans r⟩))
      · exact .inr (.inr (.inr ⟨h, hy, v, hv, e'.trans r⟩))
    · refine .inr (.inl ⟨h, by omega, ?_⟩)
      rw [e]; exact if_neg (by simpa [operandFits] using hy)
  · exact .inl ⟨h, e⟩

/-- A cell operation on a value: the operation itself. -/
theorem cellOperation_value {s : State} {v : BitVec 16} (w : CommandWord) (y : Bitmask)
    (use : BitVec 16 → State → State) (h : s.fault = .noFault) (hv : s.val = some v)
    (hy : y.toNat < 2 ^ s.cellN.width) : cellOperation w y use s = use v s := by
  simp [cellOperation, whenRunning_running _ h, operandFits, hy, readCell, hv]

/-- A cell operation on a cell without a value. -/
theorem cellOperation_unwritten {s : State} (w : CommandWord) (y : Bitmask)
    (use : BitVec 16 → State → State) (h : s.fault = .noFault) (hv : s.val = none)
    (hy : y.toNat < 2 ^ s.cellN.width) :
    cellOperation w y use s = raise .cellUnwritten w s := by
  simp [cellOperation, whenRunning_running _ h, operandFits, hy, readCell, hv]

/-- The update leaves CURRENT at the normalized value whether or not it was written
(90_conflicts.md C10). -/
theorem updateTracker_eq (n : Bitmask) (s : State) :
    updateTracker n s = { s with current := n, diff := s.current ^^^ n, res := 0x0000 } := by
  simp only [updateTracker, finish, writeDiff, writeCurrent]
  split_ifs with h
  · have : s.current = n := BitVec.xor_eq_zero_iff.mp h
    subst this
    rfl
  · rfl

/-- The two ends of the axis-change query. -/
theorem latchAxis_cases (s : State) :
    (s.diff &&& dpadMask = 0x0000 ∧ latchAxis s = { s with res := 0x0000 }) ∨
    (s.diff &&& dpadMask ≠ 0x0000 ∧
      latchAxis s = { s with axmask := some ((s.current >>> 4).setWidth 4), res := 0x0001 }) := by
  by_cases h : s.diff &&& dpadMask = 0x0000
  · exact .inl ⟨h, if_pos h⟩
  · exact .inr ⟨h, if_neg h⟩

/-- What one step can be: nothing, a reset, or a word presented. -/
theorem step_cases (s : State) :
    (s.host = [] ∧ step s = .next s) ∨
    (∃ rest, s.host = .reset :: rest ∧ step s = .next (applyReset { s with host := rest })) ∨
    (∃ w rest, s.host = .command w :: rest ∧ step s = present w { s with host := rest }) := by
  unfold step takeHostAction
  match h : s.host with
  | [] => exact .inl ⟨rfl, rfl⟩
  | .reset :: rest => exact .inr (.inl ⟨rest, rfl, rfl⟩)
  | .command w :: rest => exact .inr (.inr ⟨w, rest, rfl, rfl⟩)

/-- The three ends of presenting a word (30_encoding.md R48). -/
theorem present_cases (w : CommandWord) (s : State) :
    (s.fault ≠ .noFault ∧ present w s = .next (ignore s)) ∨
    (s.fault = .noFault ∧ decode s.cellN w = none ∧
      present w s = .next (raise .illegalCommand w s)) ∨
    (s.fault = .noFault ∧ ∃ i, decode s.cellN w = some i ∧ present w s = exec i s) := by
  unfold present
  by_cases h : s.fault = .noFault
  · cases hd : decode s.cellN w with
    | none => exact .inr (.inl ⟨h, rfl, by simp [h]⟩)
    | some i => exact .inr (.inr ⟨h, i, rfl, by simp [h]⟩)
  · exact .inl ⟨h, by simp [h]⟩

end Sys2Proof.Machine
end

