-- ==== Sys2Proof/Laws/Exec.lean ====
section
/-!
SUPPORT. Everything the execution of a command can do, said once over all 43 commands.
-/

namespace Sys2Proof.Machine

/-- What a running block does with a command: a result alone, the tracker update, the axis query, or
one of the three kinds of cell command. -/
inductive RunEnd (i : Instr) (s : State) : Prop where
  /-- A command of RAW, SNAP or SNAPR, or a key query: only a result. -/
  | result (r : Bitmask) (unit : i.unit ≠ 0x4) (query : i.unit = 0x3 → i.fn ≠ 0x0 ∧ i.fn ≠ 0x5)
      (eq : exec i s = .next (finish r s))
  /-- TRK.UPDATE. -/
  | update (raw : Bitmask) (instr : i = .trkUpdate raw)
      (eq : exec i s = .next (updateTracker (normRaw raw) s))
  /-- TRK.AXCHG. -/
  | axisChange (instr : i = .trkAxchg) (eq : exec i s = .next (latchAxis s))
  /-- CELL.SETB. -/
  | setBool (t : Bool) (instr : i = .cellSetb t)
      (eq : exec i s = .next (finish 0x0000 (writeVal (if t then 1 else 0) s)))
  /-- CELL.GET. -/
  | get (instr : i = .cellGet) (eq : exec i s = .next (readCell (encode i) finish s))
  /-- A CELL arithmetic command that does not divide. -/
  | arith (f : Nat → Nat → Int) (unit : i.unit = 0x4) (fn : 0x2 ≤ i.fn)
      (plain : i.fn ≠ 0x5 ∧ i.fn ≠ 0x6) (legal : ∀ n, i.wellFormed n = operandFits n i.imm)
      (eq : exec i s = .next (cellArith (encode i) i.imm f s))
  /-- CELL.DIV or CELL.MOD. -/
  | divide (f : Nat → Nat → Int) (unit : i.unit = 0x4) (fn : i.fn = 0x5 ∨ i.fn = 0x6)
      (legal : ∀ n, i.wellFormed n = operandFits n i.imm)
      (eq : exec i s = .next (cellDivide (encode i) i.imm f s))

/-- A running block does one of these seven things. -/
theorem exec_running (i : Instr) {s : State} (h : s.fault = .noFault) : RunEnd i s := by
  have R : ∀ e : State → State, Host.Outcome.next (whenRunning e s) =
      (Host.Outcome.next (e s) : Host.Outcome State Fault Refusal) :=
    fun e => congrArg _ (whenRunning_running e h)
  cases i with
  | trkUpdate raw => exact .update raw rfl (R _)
  | trkAxchg => exact .axisChange rfl (R _)
  | cellSetb t => exact .setBool t rfl (R _)
  | cellGet => exact .get rfl (R _)
  | cellDiv y | cellMod y => exact .divide _ rfl (by simp [Instr.fn]) (fun _ => rfl) rfl
  | cellAdd y | cellSub y | cellMul y | cellShl y | cellShr y | cellAnd y | cellOr y | cellXor y =>
    exact .arith _ rfl (by simp [Instr.fn]) (by simp [Instr.fn]) (fun _ => rfl) rfl
  | trkPressed k | trkReleased k | trkDown k | trkUp k =>
    exact .result _ (by simp [Instr.unit]) (by simp [Instr.fn]) (R _)
  | _ => exact .result _ (by simp [Instr.unit]) (by simp [Instr.unit]) (R _)

/-- A cell operation in a halted block is ignored. -/
theorem cellOperation_halted {s : State} (w : CommandWord) (y : Bitmask)
    (use : BitVec 16 → State → State) (h : s.fault ≠ .noFault) :
    cellOperation w y use s = ignore s := whenRunning_halted _ h

end Sys2Proof.Machine
end

