-- ==== Sys2Proof/Laws/PerInstr.lean ====
section
/-!
SUPPORT. Laws stated of every command, one lemma per constructor.
-/

namespace Sys2Proof.Laws.EncodesToItsRow

/-- The word of a command, under the mask of the row of its mnemonic in the opcode table, is the
row's match value (30_encoding.md R45). -/
def Statement (i : Instr) : Prop :=
  ∃ r ∈ opcodeTable, r.mnemonic = i.mnemonic ∧ encode i &&& r.mask = r.bits

theorem norm (raw : Bitmask) : Statement (.norm raw) :=
  ⟨⟨"NORM", .v, 0x000000, 0xFF0000⟩, by decide, rfl, ofFields_and_opcode 0x0 0x0 raw⟩

theorem snapA (b : Bitmask) : Statement (.snapA b) :=
  ⟨⟨"SNAP.A", .v, 0x100000, 0xFF0000⟩, by decide, rfl, ofFields_and_opcode 0x1 0x0 b⟩

theorem snapB (b : Bitmask) : Statement (.snapB b) :=
  ⟨⟨"SNAP.B", .v, 0x110000, 0xFF0000⟩, by decide, rfl, ofFields_and_opcode 0x1 0x1 b⟩

theorem snapSelect (b : Bitmask) : Statement (.snapSelect b) :=
  ⟨⟨"SNAP.SELECT", .v, 0x120000, 0xFF0000⟩, by decide, rfl, ofFields_and_opcode 0x1 0x2 b⟩

theorem snapStart (b : Bitmask) : Statement (.snapStart b) :=
  ⟨⟨"SNAP.START", .v, 0x130000, 0xFF0000⟩, by decide, rfl, ofFields_and_opcode 0x1 0x3 b⟩

theorem snapRight (b : Bitmask) : Statement (.snapRight b) :=
  ⟨⟨"SNAP.RIGHT", .v, 0x140000, 0xFF0000⟩, by decide, rfl, ofFields_and_opcode 0x1 0x4 b⟩

theorem snapLeft (b : Bitmask) : Statement (.snapLeft b) :=
  ⟨⟨"SNAP.LEFT", .v, 0x150000, 0xFF0000⟩, by decide, rfl, ofFields_and_opcode 0x1 0x5 b⟩

theorem snapUp (b : Bitmask) : Statement (.snapUp b) :=
  ⟨⟨"SNAP.UP", .v, 0x160000, 0xFF0000⟩, by decide, rfl, ofFields_and_opcode 0x1 0x6 b⟩

theorem snapDown (b : Bitmask) : Statement (.snapDown b) :=
  ⟨⟨"SNAP.DOWN", .v, 0x170000, 0xFF0000⟩, by decide, rfl, ofFields_and_opcode 0x1 0x7 b⟩

theorem snapR (b : Bitmask) : Statement (.snapR b) :=
  ⟨⟨"SNAP.R", .v, 0x180000, 0xFF0000⟩, by decide, rfl, ofFields_and_opcode 0x1 0x8 b⟩

theorem snapL (b : Bitmask) : Statement (.snapL b) :=
  ⟨⟨"SNAP.L", .v, 0x190000, 0xFF0000⟩, by decide, rfl, ofFields_and_opcode 0x1 0x9 b⟩

theorem snapAxisx (b : Bitmask) : Statement (.snapAxisx b) :=
  ⟨⟨"SNAP.AXISX", .v, 0x1A0000, 0xFF0000⟩, by decide, rfl, ofFields_and_opcode 0x1 0xA b⟩

theorem snapAxisy (b : Bitmask) : Statement (.snapAxisy b) :=
  ⟨⟨"SNAP.AXISY", .v, 0x1B0000, 0xFF0000⟩, by decide, rfl, ofFields_and_opcode 0x1 0xB b⟩

theorem snaprA (raw : Bitmask) : Statement (.snaprA raw) :=
  ⟨⟨"SNAPR.A", .v, 0x200000, 0xFF0000⟩, by decide, rfl, ofFields_and_opcode 0x2 0x0 raw⟩

theorem snaprB (raw : Bitmask) : Statement (.snaprB raw) :=
  ⟨⟨"SNAPR.B", .v, 0x210000, 0xFF0000⟩, by decide, rfl, ofFields_and_opcode 0x2 0x1 raw⟩

theorem snaprSelect (raw : Bitmask) : Statement (.snaprSelect raw) :=
  ⟨⟨"SNAPR.SELECT", .v, 0x220000, 0xFF0000⟩, by decide, rfl, ofFields_and_opcode 0x2 0x2 raw⟩

theorem snaprStart (raw : Bitmask) : Statement (.snaprStart raw) :=
  ⟨⟨"SNAPR.START", .v, 0x230000, 0xFF0000⟩, by decide, rfl, ofFields_and_opcode 0x2 0x3 raw⟩

theorem snaprRight (raw : Bitmask) : Statement (.snaprRight raw) :=
  ⟨⟨"SNAPR.RIGHT", .v, 0x240000, 0xFF0000⟩, by decide, rfl, ofFields_and_opcode 0x2 0x4 raw⟩

theorem snaprLeft (raw : Bitmask) : Statement (.snaprLeft raw) :=
  ⟨⟨"SNAPR.LEFT", .v, 0x250000, 0xFF0000⟩, by decide, rfl, ofFields_and_opcode 0x2 0x5 raw⟩

theorem snaprUp (raw : Bitmask) : Statement (.snaprUp raw) :=
  ⟨⟨"SNAPR.UP", .v, 0x260000, 0xFF0000⟩, by decide, rfl, ofFields_and_opcode 0x2 0x6 raw⟩

theorem snaprDown (raw : Bitmask) : Statement (.snaprDown raw) :=
  ⟨⟨"SNAPR.DOWN", .v, 0x270000, 0xFF0000⟩, by decide, rfl, ofFields_and_opcode 0x2 0x7 raw⟩

theorem snaprR (raw : Bitmask) : Statement (.snaprR raw) :=
  ⟨⟨"SNAPR.R", .v, 0x280000, 0xFF0000⟩, by decide, rfl, ofFields_and_opcode 0x2 0x8 raw⟩

theorem snaprL (raw : Bitmask) : Statement (.snaprL raw) :=
  ⟨⟨"SNAPR.L", .v, 0x290000, 0xFF0000⟩, by decide, rfl, ofFields_and_opcode 0x2 0x9 raw⟩

theorem snaprAxisx (raw : Bitmask) : Statement (.snaprAxisx raw) :=
  ⟨⟨"SNAPR.AXISX", .v, 0x2A0000, 0xFF0000⟩, by decide, rfl, ofFields_and_opcode 0x2 0xA raw⟩

theorem snaprAxisy (raw : Bitmask) : Statement (.snaprAxisy raw) :=
  ⟨⟨"SNAPR.AXISY", .v, 0x2B0000, 0xFF0000⟩, by decide, rfl, ofFields_and_opcode 0x2 0xB raw⟩

theorem trkUpdate (raw : Bitmask) : Statement (.trkUpdate raw) :=
  ⟨⟨"TRK.UPDATE", .v, 0x300000, 0xFF0000⟩, by decide, rfl, ofFields_and_opcode 0x3 0x0 raw⟩

theorem trkPressed (k : Bitmask) : Statement (.trkPressed k) :=
  ⟨⟨"TRK.PRESSED", .v, 0x310000, 0xFF0000⟩, by decide, rfl, ofFields_and_opcode 0x3 0x1 k⟩

theorem trkReleased (k : Bitmask) : Statement (.trkReleased k) :=
  ⟨⟨"TRK.RELEASED", .v, 0x320000, 0xFF0000⟩, by decide, rfl, ofFields_and_opcode 0x3 0x2 k⟩

theorem trkDown (k : Bitmask) : Statement (.trkDown k) :=
  ⟨⟨"TRK.DOWN", .v, 0x330000, 0xFF0000⟩, by decide, rfl, ofFields_and_opcode 0x3 0x3 k⟩

theorem trkUp (k : Bitmask) : Statement (.trkUp k) :=
  ⟨⟨"TRK.UP", .v, 0x340000, 0xFF0000⟩, by decide, rfl, ofFields_and_opcode 0x3 0x4 k⟩

theorem trkAxchg : Statement (.trkAxchg) :=
  ⟨⟨"TRK.AXCHG", .z, 0x350000, 0xFFFFFF⟩, by decide, rfl, by decide⟩

theorem cellSetb (t : Bool) : Statement (.cellSetb t) :=
  ⟨⟨"CELL.SETB", .b, 0x400000, 0xFFFFFE⟩, by decide, rfl, by cases t <;> decide⟩

theorem cellGet : Statement (.cellGet) :=
  ⟨⟨"CELL.GET", .z, 0x410000, 0xFFFFFF⟩, by decide, rfl, by decide⟩

theorem cellAdd (y : Bitmask) : Statement (.cellAdd y) :=
  ⟨⟨"CELL.ADD", .c, 0x420000, 0xFF0000⟩, by decide, rfl, ofFields_and_opcode 0x4 0x2 y⟩

theorem cellSub (y : Bitmask) : Statement (.cellSub y) :=
  ⟨⟨"CELL.SUB", .c, 0x430000, 0xFF0000⟩, by decide, rfl, ofFields_and_opcode 0x4 0x3 y⟩

theorem cellMul (y : Bitmask) : Statement (.cellMul y) :=
  ⟨⟨"CELL.MUL", .c, 0x440000, 0xFF0000⟩, by decide, rfl, ofFields_and_opcode 0x4 0x4 y⟩

theorem cellDiv (y : Bitmask) : Statement (.cellDiv y) :=
  ⟨⟨"CELL.DIV", .c, 0x450000, 0xFF0000⟩, by decide, rfl, ofFields_and_opcode 0x4 0x5 y⟩

theorem cellMod (y : Bitmask) : Statement (.cellMod y) :=
  ⟨⟨"CELL.MOD", .c, 0x460000, 0xFF0000⟩, by decide, rfl, ofFields_and_opcode 0x4 0x6 y⟩

theorem cellShl (y : Bitmask) : Statement (.cellShl y) :=
  ⟨⟨"CELL.SHL", .c, 0x470000, 0xFF0000⟩, by decide, rfl, ofFields_and_opcode 0x4 0x7 y⟩

theorem cellShr (y : Bitmask) : Statement (.cellShr y) :=
  ⟨⟨"CELL.SHR", .c, 0x480000, 0xFF0000⟩, by decide, rfl, ofFields_and_opcode 0x4 0x8 y⟩

theorem cellAnd (y : Bitmask) : Statement (.cellAnd y) :=
  ⟨⟨"CELL.AND", .c, 0x490000, 0xFF0000⟩, by decide, rfl, ofFields_and_opcode 0x4 0x9 y⟩

theorem cellOr (y : Bitmask) : Statement (.cellOr y) :=
  ⟨⟨"CELL.OR", .c, 0x4A0000, 0xFF0000⟩, by decide, rfl, ofFields_and_opcode 0x4 0xA y⟩

theorem cellXor (y : Bitmask) : Statement (.cellXor y) :=
  ⟨⟨"CELL.XOR", .c, 0x4B0000, 0xFF0000⟩, by decide, rfl, ofFields_and_opcode 0x4 0xB y⟩

end Sys2Proof.Laws.EncodesToItsRow
end

