-- ==== Sys2Proof/Laws/Run.lean ====
section
/-!
SUPPORT. Runs of several steps, and the induction on them packaged once.
-/

namespace Sys2Proof.Machine

/-- A run of `k + 1` steps of any machine, by its first step. -/
theorem run_eq (M : Host.Core) (k : Nat) (s : M.State) :
    M.run (k + 1) s = match M.step s with
      | .next s' => M.run k s'
      | .fault r => .fault r
      | .refused r => .refused r := rfl

/-- A run of `k + 1` steps whose first step goes on. -/
theorem run_succ {s t : State} (k : Nat) (h : step s = .next t) :
    core.run (k + 1) s = core.run k t := by
  have h' : core.step s = .next t := h
  exact (run_eq core k s).trans (by rw [h'])

/-- A property that every step keeps holds after every run. -/
theorem run_induction {P : State → Prop} (keeps : ∀ s t, P s → step s = .next t → P t) (k : Nat)
    {s t : State} (hs : P s) (h : core.run k s = .next t) : P t := by
  induction k generalizing s with
  | zero => cases h; exact hs
  | succ k ih =>
    have h' := (run_eq core k s).symm.trans h
    split at h'
    · rename_i u hu; exact ih (keeps s u hs hu) h'
    · cases h'
    · cases h'

end Sys2Proof.Machine
end

