-- ==== Sys2Proof/Tests/Slice0.lean ====
section
/-!
SUPPORT. Tests of the model. Every expected value stands in spec/95_test_vectors.md or is worked by hand
from the rule cited; none is an output of the model. The witnesses at the end show, for each statement
with hypotheses, a concrete state and operands that meet them together.
-/

namespace Sys2Proof.Tests

open Sys2Proof.Machine

/-- A block of the given CELL_N with a value in its cell. -/
def withCell (n : Nat) (h : 1 ≤ n) (h' : n ≤ 15) (v : BitVec 16) : State :=
  { State.resetFor ⟨n, h, h'⟩ with val := some v }

/-- The block of CELL_N 3 with a value in its cell. -/
def cell3 (v : BitVec 16) : State := withCell 3 (by decide) (by decide) v

/-- The block of CELL_N 3 with the given CURRENT and DIFF, as the table of section 2.4 states them. -/
def tracker (current diff : Bitmask) : State :=
  { State.resetFor ⟨3, by decide, by decide⟩ with current := current, diff := diff }

/-- The block of CELL_N 3 after reset. -/
def fresh : State := tracker 0x0000 0x0000

/-- The state after the host has presented one word. -/
def after (s : State) (w : Nat) : Option State :=
  match step (s.withFetchWord 24 w) with
  | .next t => some t
  | .fault _ => none
  | .refused _ => none

/-- The result port after one word. -/
def resAfter (s : State) (w : Nat) : Option Bitmask := (after s w).map (·.res)

/-- The result, CURRENT and DIFF after one word. -/
def trackerAfter (s : State) (w : Nat) : Option (Bitmask × Bitmask × Bitmask) :=
  (after s w).map (fun t => (t.res, t.current, t.diff))

/-- The result and AXMASK after one word. -/
def axisAfter (s : State) (w : Nat) : Option (Bitmask × Option AxisMask) :=
  (after s w).map (fun t => (t.res, t.axmask))

/-- The cell, the fault code and FCMD after one word. -/
def cellAfter (s : State) (w : Nat) : Option (Option (BitVec 16) × BitVec 2 × CommandWord) :=
  (after s w).map (fun t => (t.val, t.fault.code, t.fcmd))

/-! ### Well-formedness and the build parameter -/

/-- The operand 16 is not below 2^4 (95_test_vectors.md 2.5), 15 is. -/
theorem test_wellFormed_cellAdd : (Instr.cellAdd 16).wellFormed ⟨3, by decide, by decide⟩ = false ∧
    (Instr.cellAdd 15).wellFormed ⟨3, by decide, by decide⟩ = true := by decide

theorem test_wellFormed_cellSub : (Instr.cellSub 16).wellFormed ⟨3, by decide, by decide⟩ = false ∧
    (Instr.cellSub 15).wellFormed ⟨3, by decide, by decide⟩ = true := by decide

theorem test_wellFormed_cellMul : (Instr.cellMul 16).wellFormed ⟨3, by decide, by decide⟩ = false ∧
    (Instr.cellMul 15).wellFormed ⟨3, by decide, by decide⟩ = true := by decide

theorem test_wellFormed_cellDiv : (Instr.cellDiv 16).wellFormed ⟨3, by decide, by decide⟩ = false ∧
    (Instr.cellDiv 15).wellFormed ⟨3, by decide, by decide⟩ = true := by decide

theorem test_wellFormed_cellMod : (Instr.cellMod 16).wellFormed ⟨3, by decide, by decide⟩ = false ∧
    (Instr.cellMod 15).wellFormed ⟨3, by decide, by decide⟩ = true := by decide

theorem test_wellFormed_cellShl : (Instr.cellShl 16).wellFormed ⟨3, by decide, by decide⟩ = false ∧
    (Instr.cellShl 15).wellFormed ⟨3, by decide, by decide⟩ = true := by decide

theorem test_wellFormed_cellShr : (Instr.cellShr 16).wellFormed ⟨3, by decide, by decide⟩ = false ∧
    (Instr.cellShr 15).wellFormed ⟨3, by decide, by decide⟩ = true := by decide

theorem test_wellFormed_cellAnd : (Instr.cellAnd 16).wellFormed ⟨3, by decide, by decide⟩ = false ∧
    (Instr.cellAnd 15).wellFormed ⟨3, by decide, by decide⟩ = true := by decide

theorem test_wellFormed_cellOr : (Instr.cellOr 16).wellFormed ⟨3, by decide, by decide⟩ = false ∧
    (Instr.cellOr 15).wellFormed ⟨3, by decide, by decide⟩ = true := by decide

theorem test_wellFormed_cellXor : (Instr.cellXor 16).wellFormed ⟨3, by decide, by decide⟩ = false ∧
    (Instr.cellXor 15).wellFormed ⟨3, by decide, by decide⟩ = true := by decide

/-- Widths 0, 16 and 17 are refused, 1 and 15 accepted (95_test_vectors.md 2.5). -/
theorem test_build : State.build? 0 = none ∧ State.build? 16 = none ∧ State.build? 17 = none ∧
    (State.build? 1).isSome ∧ (State.build? 15).isSome := by decide

/-- The table of R5, some rows. -/
theorem test_widths : (CellN.ofNat? 3).map (fun n => (n.width, n.padding)) = some (4, 1) ∧
    (CellN.ofNat? 1).map (fun n => (n.width, n.padding)) = some (1, 0) ∧
    (CellN.ofNat? 5).map (fun n => (n.width, n.padding)) = some (8, 3) ∧
    (CellN.ofNat? 8).map (fun n => (n.width, n.padding)) = some (8, 0) ∧
    (CellN.ofNat? 9).map (fun n => (n.width, n.padding)) = some (16, 7) := by decide

/-! ### Decoding: the words of 95_test_vectors.md, and for each unit one word bit by bit from R41 to R45 -/

theorem test_decode_norm : decodeTableWord 24 0x00FFFE = some (.norm 0xFFFE) := by decide

theorem test_decode_snapA : decodeTableWord 24 0x100001 = some (.snapA 0x0001) := by decide

theorem test_decode_snapB : decodeTableWord 24 0x110002 = some (.snapB 0x0002) := by decide

theorem test_decode_snapSelect : decodeTableWord 24 0x120004 = some (.snapSelect 0x0004) := by decide

theorem test_decode_snapStart : decodeTableWord 24 0x130008 = some (.snapStart 0x0008) := by decide

theorem test_decode_snapRight : decodeTableWord 24 0x140010 = some (.snapRight 0x0010) := by decide

theorem test_decode_snapLeft : decodeTableWord 24 0x150020 = some (.snapLeft 0x0020) := by decide

theorem test_decode_snapUp : decodeTableWord 24 0x160040 = some (.snapUp 0x0040) := by decide

theorem test_decode_snapDown : decodeTableWord 24 0x170080 = some (.snapDown 0x0080) := by decide

theorem test_decode_snapR : decodeTableWord 24 0x180100 = some (.snapR 0x0100) := by decide

theorem test_decode_snapL : decodeTableWord 24 0x190200 = some (.snapL 0x0200) := by decide

theorem test_decode_snapAxisx : decodeTableWord 24 0x1A0020 = some (.snapAxisx 0x0020) := by decide

theorem test_decode_snapAxisy : decodeTableWord 24 0x1B0080 = some (.snapAxisy 0x0080) := by decide

theorem test_decode_snaprA : decodeTableWord 24 0x20FFFE = some (.snaprA 0xFFFE) := by decide

theorem test_decode_snaprB : decodeTableWord 24 0x21FFFD = some (.snaprB 0xFFFD) := by decide

theorem test_decode_snaprSelect : decodeTableWord 24 0x22FFFB = some (.snaprSelect 0xFFFB) := by decide

theorem test_decode_snaprStart : decodeTableWord 24 0x2303F7 = some (.snaprStart 0x03F7) := by decide

theorem test_decode_snaprRight : decodeTableWord 24 0x2403CF = some (.snaprRight 0x03CF) := by decide

theorem test_decode_snaprLeft : decodeTableWord 24 0x25FFDF = some (.snaprLeft 0xFFDF) := by decide

theorem test_decode_snaprUp : decodeTableWord 24 0x26FFBF = some (.snaprUp 0xFFBF) := by decide

theorem test_decode_snaprDown : decodeTableWord 24 0x27FF7F = some (.snaprDown 0xFF7F) := by decide

theorem test_decode_snaprR : decodeTableWord 24 0x28FEFF = some (.snaprR 0xFEFF) := by decide

theorem test_decode_snaprL : decodeTableWord 24 0x2901FF = some (.snaprL 0x01FF) := by decide

theorem test_decode_snaprAxisx : decodeTableWord 24 0x2A03EF = some (.snaprAxisx 0x03EF) := by decide

theorem test_decode_snaprAxisy : decodeTableWord 24 0x2B037F = some (.snaprAxisy 0x037F) := by decide

theorem test_decode_trkUpdate : decodeTableWord 24 0x30FFFE = some (.trkUpdate 0xFFFE) := by decide

theorem test_decode_trkPressed : decodeTableWord 24 0x310003 = some (.trkPressed 0x0003) := by decide

theorem test_decode_trkReleased : decodeTableWord 24 0x3203FF = some (.trkReleased 0x03FF) := by decide

theorem test_decode_trkDown : decodeTableWord 24 0x330002 = some (.trkDown 0x0002) := by decide

theorem test_decode_trkUp : decodeTableWord 24 0x340031 = some (.trkUp 0x0031) := by decide

theorem test_decode_trkAxchg : decodeTableWord 24 0x350000 = some .trkAxchg := by decide

theorem test_decode_cellSetb : decodeTableWord 24 0x400001 = some (.cellSetb true) := by decide

theorem test_decode_cellGet : decodeTableWord 24 0x410000 = some .cellGet := by decide

theorem test_decode_cellAdd : decodeTableWord 24 0x42000E = some (.cellAdd 14) := by decide

theorem test_decode_cellSub : decodeTableWord 24 0x43000F = some (.cellSub 15) := by decide

theorem test_decode_cellMul : decodeTableWord 24 0x440003 = some (.cellMul 3) := by decide

theorem test_decode_cellDiv : decodeTableWord 24 0x450004 = some (.cellDiv 4) := by decide

theorem test_decode_cellMod : decodeTableWord 24 0x460004 = some (.cellMod 4) := by decide

theorem test_decode_cellShl : decodeTableWord 24 0x470002 = some (.cellShl 2) := by decide

theorem test_decode_cellShr : decodeTableWord 24 0x480003 = some (.cellShr 3) := by decide

theorem test_decode_cellAnd : decodeTableWord 24 0x490007 = some (.cellAnd 7) := by decide

theorem test_decode_cellOr : decodeTableWord 24 0x4A0009 = some (.cellOr 9) := by decide

theorem test_decode_cellXor : decodeTableWord 24 0x4B000D = some (.cellXor 13) := by decide

/-- Unit 0000, function 0000, operand 1111 1111 1111 1110. -/
theorem test_bits_raw : decodeTableWord 24 0b000000001111111111111110 = some (.norm 0xFFFE) := by decide

/-- Unit 0001, function 1001, operand 0000 0010 0000 0000: SNAP.L of the flag of L. -/
theorem test_bits_snap : decodeTableWord 24 0b000110010000001000000000 = some (.snapL 0x0200) := by decide

/-- Unit 0010, function 1011, operand 0000 0011 0111 1111: SNAPR.AXISY. -/
theorem test_bits_snapr :
    decodeTableWord 24 0b001010110000001101111111 = some (.snaprAxisy 0x037F) := by decide

/-- Unit 0011, function 0100, operand 0000 0000 0011 0001: TRK.UP. -/
theorem test_bits_trk : decodeTableWord 24 0b001101000000000000110001 = some (.trkUp 0x0031) := by decide

/-- Unit 0100, function 1000, operand 0000 0000 0000 0011: CELL.SHR 3. -/
theorem test_bits_cell : decodeTableWord 24 0b010010000000000000000011 = some (.cellShr 3) := by decide

/-- The encoder gives the words back. -/
theorem test_encode : encode (.norm 0xFFFE) = 0x00FFFE ∧ encode (.snapL 0x0200) = 0x190200 ∧
    encode (.snaprAxisy 0x037F) = 0x2B037F ∧ encode .trkAxchg = 0x350000 ∧
    encode (.cellSetb true) = 0x400001 ∧ encode (.cellXor 13) = 0x4B000D := by decide

/-- Section 2.6: reserved functions, reserved units, and operands out of their format. -/
theorem test_decode_illegal : decodeTableWord 24 0x010000 = none ∧ decodeTableWord 24 0x1C0000 = none ∧
    decodeTableWord 24 0x2F1234 = none ∧ decodeTableWord 24 0x360000 = none ∧
    decodeTableWord 24 0x4C0000 = none ∧ decodeTableWord 24 0x500000 = none ∧
    decodeTableWord 24 0xFFFFFF = none ∧ decodeTableWord 24 0x350001 = none ∧
    decodeTableWord 24 0x410001 = none ∧ decodeTableWord 24 0x400002 = none ∧
    decodeTableWord 24 0x420010 = none := by decide

/-! ### RAW, SNAP, SNAPR (95_test_vectors.md 2.1, 2.2, 2.3) -/

theorem test_norm_reserved : resAfter fresh 0x0003FE = some 0xFC01 := by decide

theorem test_norm_bits : resAfter fresh 0x00A5A5 = some 0x5A5A := by decide

theorem test_snapA : resAfter fresh 0x100001 = some 0x0001 ∧
    resAfter fresh 0x10FFFE = some 0x0000 := by decide

theorem test_snapB : resAfter fresh 0x110002 = some 0x0001 ∧
    resAfter fresh 0x11FFFD = some 0x0000 := by decide

theorem test_snapSelect : resAfter fresh 0x120004 = some 0x0001 ∧
    resAfter fresh 0x12FFFB = some 0x0000 := by decide

theorem test_snapStart : resAfter fresh 0x130008 = some 0x0001 ∧
    resAfter fresh 0x13FFF7 = some 0x0000 := by decide

theorem test_snapRight : resAfter fresh 0x140010 = some 0x0001 ∧
    resAfter fresh 0x14FFEF = some 0x0000 := by decide

theorem test_snapLeft : resAfter fresh 0x150020 = some 0x0001 ∧
    resAfter fresh 0x15FFDF = some 0x0000 := by decide

theorem test_snapUp : resAfter fresh 0x160040 = some 0x0001 ∧
    resAfter fresh 0x16FFBF = some 0x0000 := by decide

theorem test_snapDown : resAfter fresh 0x170080 = some 0x0001 ∧
    resAfter fresh 0x17FF7F = some 0x0000 := by decide

theorem test_snapR : resAfter fresh 0x180100 = some 0x0001 ∧
    resAfter fresh 0x18FEFF = some 0x0000 := by decide

theorem test_snapL : resAfter fresh 0x190200 = some 0x0001 ∧
    resAfter fresh 0x19FDFF = some 0x0000 := by decide

/-- Left alone is minus one, both directions cancel (S3, S5). -/
theorem test_snapAxisx : resAfter fresh 0x1A0020 = some 0xFFFF ∧ resAfter fresh 0x1A0030 = some 0x0000 ∧
    resAfter fresh 0x1A0010 = some 0x0001 ∧ resAfter fresh 0x1AFF2F = some 0xFFFF := by decide

theorem test_snapAxisy : resAfter fresh 0x1B0040 = some 0x0001 ∧ resAfter fresh 0x1B0080 = some 0xFFFF ∧
    resAfter fresh 0x1B00C0 = some 0x0000 ∧ resAfter fresh 0x1BFF2F = some 0x0000 := by decide

theorem test_snaprA : resAfter fresh 0x20FFFE = some 0x0001 ∧
    resAfter fresh 0x200001 = some 0x0000 := by decide

theorem test_snaprB : resAfter fresh 0x21FFFD = some 0x0001 ∧
    resAfter fresh 0x210002 = some 0x0000 := by decide

theorem test_snaprSelect : resAfter fresh 0x22FFFB = some 0x0001 ∧
    resAfter fresh 0x220004 = some 0x0000 := by decide

theorem test_snaprStart : resAfter fresh 0x23FFF7 = some 0x0001 ∧
    resAfter fresh 0x230008 = some 0x0000 := by decide

theorem test_snaprRight : resAfter fresh 0x24FFEF = some 0x0001 ∧
    resAfter fresh 0x240010 = some 0x0000 := by decide

theorem test_snaprLeft : resAfter fresh 0x25FFDF = some 0x0001 ∧
    resAfter fresh 0x250020 = some 0x0000 := by decide

theorem test_snaprUp : resAfter fresh 0x26FFBF = some 0x0001 ∧
    resAfter fresh 0x260040 = some 0x0000 := by decide

theorem test_snaprDown : resAfter fresh 0x27FF7F = some 0x0001 ∧
    resAfter fresh 0x270080 = some 0x0000 := by decide

theorem test_snaprR : resAfter fresh 0x28FEFF = some 0x0001 ∧
    resAfter fresh 0x280100 = some 0x0000 := by decide

theorem test_snaprL : resAfter fresh 0x29FDFF = some 0x0001 ∧
    resAfter fresh 0x290200 = some 0x0000 := by decide

theorem test_snaprAxisx : resAfter fresh 0x2A03EF = some 0x0001 ∧ resAfter fresh 0x2A03DF = some 0xFFFF ∧
    resAfter fresh 0x2A03CF = some 0x0000 ∧ resAfter fresh 0x2A0000 = some 0x0000 := by decide

theorem test_snaprAxisy : resAfter fresh 0x2B03BF = some 0x0001 ∧ resAfter fresh 0x2B037F = some 0xFFFF ∧
    resAfter fresh 0x2B033F = some 0x0000 := by decide

/-! ### TRK (95_test_vectors.md 2.4) -/

/-- A is released and B pressed on one tick. -/
theorem test_trkUpdate_swap :
    trackerAfter (tracker 0x0001 0x0001) 0x30FFFD = some (0x0000, 0x0002, 0x0003) := by decide

/-- A repeated value clears DIFF and keeps CURRENT. -/
theorem test_trkUpdate_repeat :
    trackerAfter (tracker 0xFC00 0xFC00) 0x3003FF = some (0x0000, 0xFC00, 0x0000) := by decide

theorem test_trkPressed : resAfter (tracker 0x0002 0x0003) 0x310003 = some 0x0000 ∧
    resAfter (tracker 0x0003 0x0002) 0x310003 = some 0x0001 ∧
    resAfter fresh 0x310000 = some 0x0001 := by decide

/-- Neither level query is true of a partly pressed chord (R103). -/
theorem test_trkReleased : resAfter (tracker 0x0002 0x0003) 0x320003 = some 0x0000 ∧
    resAfter (tracker 0x0002 0x0003) 0x320001 = some 0x0001 ∧
    resAfter fresh 0x320000 = some 0x0001 := by decide

theorem test_trkDown : trackerAfter (tracker 0x0002 0x0003) 0x330002 = some (0x0001, 0x0002, 0x0003) ∧
    resAfter (tracker 0x0002 0x0003) 0x330003 = some 0x0000 ∧
    resAfter fresh 0x330001 = some 0x0000 := by decide

theorem test_trkUp : trackerAfter (tracker 0x0002 0x0003) 0x340001 = some (0x0001, 0x0002, 0x0003) ∧
    resAfter (tracker 0x0002 0x0003) 0x340003 = some 0x0000 ∧
    resAfter fresh 0x340001 = some 0x0000 := by decide

/-- A direction fell: true, and the new level 0 is latched; all four held: no cancellation. -/
theorem test_trkAxchg_changed : axisAfter (tracker 0x0000 0x0010) 0x350000 = some (0x0001, some 0x0) ∧
    axisAfter (tracker 0x00F0 0x0080) 0x350000 = some (0x0001, some 0xF) := by decide

/-- Other bits of DIFF do not count, and AXMASK is left (S11). -/
theorem test_trkAxchg_unchanged : axisAfter (tracker 0xFC10 0xFC00) 0x350000 = some (0x0000, none) ∧
    axisAfter { tracker 0x0311 0x0301 with axmask := some 0x1 } 0x350000 =
      some (0x0000, some 0x1) := by decide

/-! ### CELL (95_test_vectors.md 2.5) -/

/-- The whole register is written, the padding bit too. -/
theorem test_cellSetb : cellAfter (cell3 13) 0x400000 = some (some 0, 0, 0x000000) ∧
    cellAfter fresh 0x400001 = some (some 1, 0, 0x000000) := by decide

theorem test_cellGet : resAfter (cell3 15) 0x410000 = some 0x000F ∧
    cellAfter (cell3 15) 0x410000 = some (some 15, 0, 0x000000) := by decide

theorem test_cellGet_unwritten : cellAfter fresh 0x410000 = some (none, 2, 0x410000) := by decide

/-- 15 + 1 wraps at 2^CELL_W (S15), 7 + 1 goes into the padding bit. -/
theorem test_cellAdd : cellAfter (cell3 15) 0x420001 = some (some 0, 0, 0x000000) ∧
    cellAfter (cell3 7) 0x420001 = some (some 8, 0, 0x000000) := by decide

/-- The widths of 1 and 6 bits. -/
theorem test_cellAdd_widths :
    cellAfter (withCell 1 (by decide) (by decide) 1) 0x420001 = some (some 0, 0, 0x000000) ∧
    cellAfter (withCell 6 (by decide) (by decide) 1) 0x4200FE = some (some 255, 0, 0x000000) ∧
    cellAfter (withCell 6 (by decide) (by decide) 1) 0x420100 = some (some 1, 1, 0x420100) := by decide

theorem test_cellSub : cellAfter (cell3 3) 0x43000F = some (some 4, 0, 0x000000) ∧
    cellAfter (cell3 0) 0x430001 = some (some 15, 0, 0x000000) ∧
    cellAfter (withCell 15 (by decide) (by decide) 0) 0x430001 = some (some 65535, 0, 0x000000) := by
  decide

theorem test_cellMul : cellAfter (cell3 15) 0x44000F = some (some 1, 0, 0x000000) ∧
    cellAfter (cell3 7) 0x440003 = some (some 5, 0, 0x000000) ∧
    cellAfter (withCell 9 (by decide) (by decide) 65535) 0x44FFFF = some (some 1, 0, 0x000000) := by
  decide

theorem test_cellDiv : cellAfter (cell3 15) 0x450004 = some (some 3, 0, 0x000000) ∧
    cellAfter (cell3 3) 0x450004 = some (some 0, 0, 0x000000) := by decide

theorem test_cellDiv_zero : cellAfter (cell3 15) 0x450000 = some (some 15, 3, 0x450000) ∧
    cellAfter fresh 0x450000 = some (none, 2, 0x450000) := by decide

theorem test_cellMod : cellAfter (cell3 15) 0x460004 = some (some 3, 0, 0x000000) ∧
    cellAfter (cell3 15) 0x460001 = some (some 0, 0, 0x000000) := by decide

theorem test_cellMod_zero : cellAfter (cell3 3) 0x460000 = some (some 3, 3, 0x460000) := by decide

theorem test_cellShl : cellAfter (cell3 5) 0x470002 = some (some 4, 0, 0x000000) ∧
    cellAfter (cell3 5) 0x470004 = some (some 0, 0, 0x000000) ∧
    cellAfter (cell3 5) 0x47000F = some (some 0, 0, 0x000000) := by decide

theorem test_cellShl_wide :
    cellAfter (withCell 9 (by decide) (by decide) 1) 0x47000F = some (some 32768, 0, 0x000000) := by decide

theorem test_cellShr : cellAfter (cell3 13) 0x480003 = some (some 1, 0, 0x000000) ∧
    cellAfter (cell3 13) 0x480004 = some (some 0, 0, 0x000000) := by decide

theorem test_cellShr_wide :
    cellAfter (withCell 9 (by decide) (by decide) 32768) 0x480010 = some (some 0, 0, 0x000000) := by decide

theorem test_cellAnd : cellAfter (cell3 13) 0x490006 = some (some 4, 0, 0x000000) ∧
    cellAfter (cell3 13) 0x490007 = some (some 5, 0, 0x000000) := by decide

theorem test_cellOr : cellAfter (cell3 4) 0x4A0009 = some (some 13, 0, 0x000000) := by decide

theorem test_cellXor : cellAfter (cell3 13) 0x4B000F = some (some 2, 0, 0x000000) ∧
    cellAfter (cell3 13) 0x4B000D = some (some 0, 0, 0x000000) := by decide

/-! ### Faults, halting, reset, the assembler -/

/-- Section 2.6: an illegal word from reset. -/
theorem test_fault_illegal : cellAfter fresh 0x2F1234 = some (none, 1, 0x2F1234) ∧
    resAfter { fresh with res := 0x0001 } 0x2F1234 = some 0x0000 := by decide

/-- IllegalCommand outranks CellUnwritten (section 2.6), and the operand check the unwritten cell. -/
theorem test_fault_priority : cellAfter fresh 0x410001 = some (none, 1, 0x410001) ∧
    cellAfter fresh 0x420010 = some (none, 1, 0x420010) := by decide

/-- The state after step 21 of program P3: the division by zero is recorded. -/
def halted : State := { cell3 1 with fault := .cellDivideByZero, fcmd := 0x460000 }

/-- Steps 22 to 24 of P3: a halted block ignores commands. -/
theorem test_halted : resAfter halted 0x410000 = some 0x0000 ∧
    trackerAfter halted 0x30FFFE = some (0x0000, 0x0000, 0x0000) ∧
    cellAfter halted 0x500000 = some (some 1, 3, 0x460000) := by decide

/-- Reset of a halted block (R159, R170). -/
theorem test_reset : step { halted with host := [.reset], current := 0x0001, diff := 0x0001 } =
    .next fresh := rfl

/-- A host that presents nothing changes nothing. -/
theorem test_idle : step halted = .next halted := rfl

/-- 95_test_vectors.md P4 lines 2 and 8 and P3 line 2, as text; the comment, the blank line and the
leading space are added (log entry 6). -/
theorem test_assemble : assemble "TRK.UPDATE ~(A|B)\nTRK.UP A|B # chord\n\n CELL.GET".toList =
    some [0x30FFFC, 0x340003, 0x410000] := by decide
/-! ### Witnesses: states and operands that meet the hypotheses of the statements -/

/-- A running block of CELL_N 3 with every register away from its reset value but FAULT and FCMD. -/
def running : State :=
  { tracker 0x0002 0x0003 with axmask := some 0x1, val := some 15, res := 0x0001 }

/-- A running block whose cell has no value and whose D-pad bits have changed. -/
def unwritten : State := tracker 0x0010 0x0030

/-- A running block with the host's next word given. -/
def offered (w : CommandWord) : State := { running with host := [.command w, .reset] }

/-- Widths of CELL_N 3 and 15, operands at the ends of format C. -/
def n3 : CellN := ⟨3, by decide, by decide⟩
def n15 : CellN := ⟨15, by decide, by decide⟩
def n1 : CellN := ⟨1, by decide, by decide⟩

theorem witness_WidthOutsideOneToFifteenRefused :
    (1 ≤ 1 ∧ 1 ≤ 15) ∧ (1 ≤ 15 ∧ 15 ≤ 15) ∧ ¬ (1 ≤ 0 ∧ 0 ≤ 15) ∧ ¬ (1 ≤ 16 ∧ 16 ≤ 15) := by decide

theorem witness_CellWidthIsSmallestPowerOfTwo :
    n1.val ≤ 2 ^ 0 ∧ n3.val ≤ 2 ^ 2 ∧ n15.val ≤ 2 ^ 4 := by decide

/-- The last legal word of each clause, at the ends of the operand formats. -/
theorem witness_DecodeSelectsExactlyTheLegalWords_legal :
    legalWord n3 0x00FFFF ∧ legalWord n3 0x1BFFFF ∧ legalWord n3 0x2BFFFF ∧ legalWord n3 0x34FFFF ∧
    legalWord n3 0x350000 ∧ legalWord n3 0x400001 ∧ legalWord n3 0x410000 ∧ legalWord n3 0x42000F ∧
    legalWord n3 0x4B000F ∧ legalWord n15 0x4BFFFF := by
  and_intros <;> first | decide | (unfold legalWord; decide)

/-- The first illegal word beyond each clause, presented to a running block. -/
theorem witness_DecodeSelectsExactlyTheLegalWords_illegal :
    (¬ legalWord n3 0x010000 ∧ ¬ legalWord n3 0x1C0000 ∧ ¬ legalWord n3 0x2C0000 ∧
      ¬ legalWord n3 0x350001 ∧ ¬ legalWord n3 0x360000 ∧ ¬ legalWord n3 0x400002 ∧
      ¬ legalWord n3 0x410001 ∧ ¬ legalWord n3 0x420010 ∧ ¬ legalWord n3 0x4C0000 ∧
      ¬ legalWord n3 0x500000) ∧
    (offered 0x420010).cellN = n3 ∧ (offered 0x420010).fault = .noFault ∧
    (offered 0x420010).host = .command 0x420010 :: [.reset] := by
  and_intros <;> first | decide | (unfold legalWord; decide)

theorem witness_DecodeAgreesWithOpcodeTable :
    decode n3 0x42000F = some (.cellAdd 15) ∧
    ⟨"CELL.ADD", .c, 0x420000, 0xFF0000⟩ ∈ opcodeTable ∧
    (0x42000F : CommandWord) &&& 0xFF0000 = 0x420000 ∧
    (CommandWord.imm 0x42000F).toNat < 2 ^ n3.width := by decide

theorem witness_DecodeInvertsEncode : (Instr.cellXor 15).wellFormed n3 ∧
    (Instr.cellXor 0xFFFF).wellFormed n15 ∧ (Instr.norm 0xFFFF).wellFormed n3 := by decide

theorem witness_EncodeInvertsDecode : decode n15 0x4BFFFF = some (.cellXor 0xFFFF) := by decide

theorem witness_SpecWordsDecode : n3.val = 3 := rfl

theorem witness_StepRunsTheDecodedCommand_halted :
    ({ halted with host := [.command 0x500000] } : State).host = .command 0x500000 :: [] ∧
    halted.fault ≠ .noFault := by decide

theorem witness_StepRunsTheDecodedCommand_illegal :
    (offered 0x360000).host = .command 0x360000 :: [.reset] ∧ (offered 0x360000).fault = .noFault ∧
    decode (offered 0x360000).cellN 0x360000 = none := by decide

theorem witness_StepRunsTheDecodedCommand_legal :
    (offered 0x420001).host = .command 0x420001 :: [.reset] ∧ (offered 0x420001).fault = .noFault ∧
    decode (offered 0x420001).cellN 0x420001 = some (.cellAdd 1) := by decide

theorem witness_StepRunsTheDecodedCommand_idle : running.host = [] := rfl

theorem witness_FetchWordIsTheNextCommand : running.fault = .noFault ∧
    decode running.cellN (BitVec.ofNat 24 0x30FFFE) = some (.trkUpdate 0xFFFE) := by decide

theorem witness_ResetFromEveryState :
    ({ halted with host := [.reset, .command 0x350000] } : State).host =
      .reset :: [.command 0x350000] := rfl

theorem witness_OnlyResetLeavesAFault :
    ({ halted with host := [.reset] } : State).fault ≠ .noFault ∧
    step { halted with host := [.reset] } = .next fresh ∧
    (fresh.fault ≠ halted.fault ∨ fresh.fcmd ≠ halted.fcmd) := ⟨by decide, rfl, by decide⟩

/-- The two cases of every rule of the form `CommandRule`: a running and a halted block. -/
theorem witness_CommandRule : running.fault = .noFault ∧ halted.fault ≠ .noFault := by decide

theorem witness_NormReturnsComplement : running.fault = .noFault ∧ halted.fault ≠ .noFault := by decide

theorem witness_NormIsBitwiseInvolution :
    (0x03FF : Bitmask) &&& reservedMask = 0 ∧ (0xFC00 : Bitmask) &&& reservedMask = reservedMask ∧
    0 < 16 ∧ 15 < 16 := by decide

theorem witness_SnapButtonsTestOneBit : running.fault = .noFault ∧ halted.fault ≠ .noFault := by decide

theorem witness_SnapAxesCancel : running.fault = .noFault ∧ halted.fault ≠ .noFault := by decide

theorem witness_SnaprButtonsTestRawBitClear :
    running.fault = .noFault ∧ halted.fault ≠ .noFault := by decide

theorem witness_SnaprAxesOfRawValue : running.fault = .noFault ∧ halted.fault ≠ .noFault := by decide

theorem witness_SnapUnitsArePure : (Instr.snapA 0xFFFF).unit = 0x1 ∧
    (Instr.snaprAxisy 0x0000).unit = 0x2 ∧ running.fault = .noFault := by decide

theorem witness_SnapUnitsIgnoreReservedBits :
    ((Instr.snapL 0xFE00).unit = 0x1 ∨ (Instr.snapL 0xFE00).unit = 0x2) ∧
    (Instr.snapL 0x0200).unit = (Instr.snapL 0xFE00).unit ∧
    (Instr.snapL 0x0200).fn = (Instr.snapL 0xFE00).fn ∧
    (Instr.snapL 0xFE00).imm &&& assignedMask = (Instr.snapL 0x0200).imm &&& assignedMask ∧
    ((Instr.snaprAxisy 0x037F).unit = 0x1 ∨ (Instr.snaprAxisy 0x037F).unit = 0x2) ∧
    (Instr.snaprAxisy 0x037F).imm &&& assignedMask =
      (Instr.snaprAxisy 0xFF7F).imm &&& assignedMask := by decide

/-- Both outcomes of the conditional: a value that differs from CURRENT and one that does not. -/
theorem witness_UpdateFoldsOneRawSample : running.fault = .noFault ∧ halted.fault ≠ .noFault ∧
    running.current ^^^ (0xFFFF - 0xFFFE) ≠ 0x0000 ∧
    ¬ (running.current ^^^ (0xFFFF - 0xFFFD) ≠ 0x0000) := by decide

theorem witness_CurrentFollowsTheRawValue : running.fault = .noFault ∧ 15 < 16 := by decide

theorem witness_LevelQueriesTestCurrent :
    running.fault = .noFault ∧ halted.fault ≠ .noFault := by decide

theorem witness_EdgeQueriesTestDiffAndCurrent :
    running.fault = .noFault ∧ halted.fault ≠ .noFault := by decide

theorem witness_EmptyKeyAnswersTrue : running.fault = .noFault := rfl

/-- A block in which a direction changed, one in which none did, a halted one, a wrong operand. -/
theorem witness_AxisChangeLatchesTheLevel : unwritten.fault = .noFault ∧ halted.fault ≠ .noFault ∧
    (∃ i : Fin 16, 4 ≤ i.val ∧ i.val ≤ 7 ∧ unwritten.diff.getLsbD i = true) ∧
    ¬ (∃ i : Fin 16, 4 ≤ i.val ∧ i.val ≤ 7 ∧ running.diff.getLsbD i = true) ∧
    (0x0001 : Bitmask) ≠ 0 := by decide

theorem witness_TrackerWriters :
    exec (.trkUpdate 0xFFFE) running =
      .next { running with current := 0x0001, diff := 0x0003, res := 0x0000 } ∧
    (0x0001 : Bitmask) ≠ running.current := ⟨rfl, by decide⟩

theorem witness_QueryRelations : running.fault = .noFault ∧ (0x0003 : Bitmask) ≠ 0x0000 ∧
    (0x8000 : Bitmask) = 0x0001#16 <<< 15 ∧ (0x0001 : Bitmask) = 0x0001#16 <<< 0 := by decide

theorem witness_OneBitKeysReadDiff : running.fault = .noFault ∧ 15 < 16 ∧
    running.diff.getLsbD 0 = true ∧ running.diff.getLsbD 15 = false := by decide

/-- After the first update the axis mask is read, then the same value comes again. -/
theorem witness_RepeatedUpdateHasNoEdge :
    unwritten.fault = .noFault ∧
    exec (.trkUpdate 0xFFFE) unwritten =
      .next { unwritten with current := 0x0001, diff := 0x0011, res := 0x0000 } ∧
    exec .trkAxchg { unwritten with current := 0x0001, diff := 0x0011, res := 0x0000 } =
      .next { unwritten with current := 0x0001, diff := 0x0011, axmask := some 0x0, res := 0x0001 } ∧
    exec (.trkUpdate 0xFFFE)
        { unwritten with current := 0x0001, diff := 0x0011, axmask := some 0x0, res := 0x0001 } =
      .next { unwritten with current := 0x0001, diff := 0x0000, axmask := some 0x0, res := 0x0000 } ∧
    (0x0001 : Bitmask) ≠ 0x0000 := ⟨rfl, rfl, rfl, rfl, by decide⟩

theorem witness_FirstUpdateShowsHeldLinesAsEdges : ~~~(0xFFEF : Bitmask) &&& dpadMask ≠ 0 := by decide

/-- The states differ in other lines. -/
theorem witness_TrackerLinesAreIndependent_update :
    15 < 16 ∧ (tracker 0x8001 0x0000).fault = .noFault ∧ (tracker 0x8000 0x0100).fault = .noFault ∧
    (tracker 0x8001 0x0000).current.getLsbD 15 = (tracker 0x8000 0x0100).current.getLsbD 15 ∧
    (0x0000 : Bitmask).getLsbD 15 = (0x00FF : Bitmask).getLsbD 15 := by decide

theorem witness_TrackerLinesAreIndependent_query :
    (tracker 0x8001 0x0000).fault = .noFault ∧ (tracker 0x8000 0x0100).fault = .noFault ∧
    (tracker 0x8001 0x0000).current &&& 0x8000 = (tracker 0x8000 0x0100).current &&& 0x8000 ∧
    (tracker 0x8001 0x0000).diff &&& 0x8000 = (tracker 0x8000 0x0100).diff &&& 0x8000 := by decide

/-- Two runs of program P2's kind: the raw values differ in their reserved bits, and the second word
is a query with a key of assigned bits. -/
theorem witness_ReservedBitsNeverReachTheHost :
    sameButReserved
      { tracker 0xFC10 0x0410 with host := [.command 0x3003EF, .command 0x3303FF, .command 0x42FFFF] }
      { tracker 0x0010 0x0010 with host := [.command 0x30FFEF, .command 0x3303FF, .command 0x42FFFF] } ∧
    List.Forall₂ SameButReservedRaw
      [.command 0x3003EF, .command 0x3303FF, .command 0x42FFFF]
      [.command 0x30FFEF, .command 0x3303FF, .command 0x42FFFF] := by
  refine ⟨⟨by decide, by decide, rfl⟩, .cons (.update 0x03EF 0xFFEF (by decide)) (.cons (.same _ ?_)
    (.cons (.same _ ?_) .nil))⟩ <;>
  · intro w h
    injection h with h
    subst h
    unfold isKeyQueryWord
    decide

theorem witness_SetbWritesTruthValue : running.fault = .noFault ∧ halted.fault ≠ .noFault ∧
    1 < (2 : Bitmask).toNat ∧ 1 < (0xFFFF : Bitmask).toNat := by decide

theorem witness_GetReturnsWholeCell : running.fault = .noFault ∧ running.val = some 15 ∧
    unwritten.fault = .noFault ∧ unwritten.val = none ∧ halted.fault ≠ .noFault ∧
    (0x0001 : Bitmask) ≠ 0 := by decide

/-- The cases of every rule of the form `CellRule`: the largest legal operand and the smallest illegal
one, the largest value of the cell, a halted block. -/
theorem witness_CellRule : (15 : Bitmask).toNat < 2 ^ n3.width ∧ 2 ^ n3.width ≤ (16 : Bitmask).toNat ∧
    (0xFFFF : Bitmask).toNat < 2 ^ n15.width ∧ running.fault = .noFault ∧ running.val = some 15 ∧
    (15 : BitVec 16).toNat < 2 ^ running.cellN.width ∧
    (15 : Bitmask).toNat < 2 ^ running.cellN.width ∧ (15 : Bitmask) ≠ 0 ∧
    halted.fault ≠ .noFault := by decide

theorem witness_CellAddSubMulWrap : running.fault = .noFault ∧ running.val = some 15 ∧
    (15 : BitVec 16).toNat < 2 ^ running.cellN.width ∧ (15 : Bitmask).toNat < 2 ^ running.cellN.width ∧
    2 ^ n3.width ≤ (16 : Bitmask).toNat ∧ halted.fault ≠ .noFault := by decide

theorem witness_CellDivModFloorOrFault : running.fault = .noFault ∧ running.val = some 15 ∧
    (15 : BitVec 16).toNat < 2 ^ running.cellN.width ∧ (1 : Bitmask).toNat < 2 ^ running.cellN.width ∧
    (1 : Bitmask) ≠ 0 ∧ 2 ^ n3.width ≤ (16 : Bitmask).toNat ∧ halted.fault ≠ .noFault := by decide

/-- Amounts below, at and above the width; in the widest block the amount 16 is legal. -/
theorem witness_CellShiftsAreLogical : running.fault = .noFault ∧ running.val = some 15 ∧
    (15 : BitVec 16).toNat < 2 ^ running.cellN.width ∧ (15 : Bitmask).toNat < 2 ^ running.cellN.width ∧
    ¬ (running.cellN.width ≤ (3 : Bitmask).toNat) ∧ running.cellN.width ≤ (4 : Bitmask).toNat ∧
    (16 : Bitmask).toNat < 2 ^ n15.width ∧ n15.width ≤ (16 : Bitmask).toNat ∧
    2 ^ n3.width ≤ (16 : Bitmask).toNat ∧ halted.fault ≠ .noFault := by decide

theorem witness_CellBitwiseOperations : running.fault = .noFault ∧ running.val = some 15 ∧
    (15 : BitVec 16).toNat < 2 ^ running.cellN.width ∧ (15 : Bitmask).toNat < 2 ^ running.cellN.width ∧
    2 ^ n3.width ≤ (16 : Bitmask).toNat ∧ halted.fault ≠ .noFault := by decide

theorem witness_UnwrittenCellFaults : unwritten.fault = .noFault ∧ unwritten.val = none ∧
    (15 : Bitmask).toNat < 2 ^ unwritten.cellN.width ∧ (0 : Bitmask).toNat < 2 ^ unwritten.cellN.width := by
  decide

theorem witness_UnitFrames_stateless : exec (.snaprA 0xFFFE) running = .next { running with res := 0x0001 } ∧
    (Instr.snaprA 0xFFFE).unit = 0x2 := ⟨rfl, rfl⟩

theorem witness_UnitFrames_tracker :
    exec .trkAxchg unwritten = .next { unwritten with axmask := some 0x1, res := 0x0001 } ∧
    Instr.trkAxchg.unit = 0x3 := ⟨rfl, rfl⟩

theorem witness_UnitFrames_cell :
    exec (.cellAdd 1) running = .next { running with val := some 0, res := 0x0000 } ∧
    (Instr.cellAdd 1).unit = 0x4 ∧ running.val.isSome := ⟨rfl, rfl, rfl⟩

theorem witness_OneBitCellLaws :
    (withCell 1 (by decide) (by decide) 1).cellN.val = 1 ∧
    (withCell 1 (by decide) (by decide) 1).fault = .noFault ∧
    (withCell 1 (by decide) (by decide) 1).val = some 1 ∧ (1 : BitVec 16) ≤ 1 ∧ (1 : Bitmask) ≤ 1 ∧
    (0 : BitVec 16) ≤ 1 := by decide

/-- A run of three host actions, none of them arithmetic, that writes the cell. -/
theorem witness_BooleanUseKeepsPaddingZero :
    State.cellBoolean { fresh with host := [.command 0x400001, .command 0x410000, .reset] } ∧
    noCellArith [.command 0x400001, .command 0x410000, .reset] ∧
    core.run 2 { fresh with host := [.command 0x400001, .command 0x410000, .reset] } =
      .next { fresh with val := some 1, res := 0x0001, host := [.reset] } := by
  refine ⟨by decide, ?_, rfl⟩
  intro w h
  simp only [List.mem_cons, List.not_mem_nil, HostAction.command.injEq, reduceCtorEq, or_false] at h
  rcases h with rfl | rfl <;> decide

theorem witness_FaultPortShowsTheCode : running.fault = .noFault ∧
    ({ halted with fault := .illegalCommand } : State).fault = .illegalCommand ∧
    ({ halted with fault := .cellUnwritten } : State).fault = .cellUnwritten ∧
    halted.fault = .cellDivideByZero := by decide

theorem witness_HaltedBlockIgnoresEveryCommand : halted.fault ≠ .noFault ∧
    [(0x30FFFE : CommandWord), 0x500000] ≠ [] ∧
    ({ halted with host := [.command 0x30FFFE, .command 0x500000, .reset] } : State).host =
      [(0x30FFFE : CommandWord), 0x500000].map .command ++ [.reset] := by decide

theorem witness_FaultEntryIsPrecise :
    (offered 0x450000).host = .command 0x450000 :: [.reset] ∧ (offered 0x450000).fault = .noFault ∧
    step (offered 0x450000) =
      .next { running with host := [.reset], fault := .cellDivideByZero, fcmd := 0x450000, res := 0x0000 } ∧
    (FaultCode.cellDivideByZero ≠ .noFault) := ⟨rfl, rfl, rfl, by decide⟩

theorem witness_FaultCausesAndPriority_halted :
    ({ halted with host := [.command 0x500000] } : State).host = .command 0x500000 :: [] ∧
    halted.fault.code ≠ 0 := by decide

theorem witness_FaultCausesAndPriority_illegal :
    (offered 0x420010).host = .command 0x420010 :: [.reset] ∧ (offered 0x420010).fault.code = 0 ∧
    ¬ legalWord (offered 0x420010).cellN 0x420010 := by
  and_intros <;> first | decide | (unfold legalWord; decide)

/-- CELL.GET and a division by zero, both of an unwritten cell. -/
theorem witness_FaultCausesAndPriority_unwritten :
    ({ unwritten with host := [.command 0x450000] } : State).host = .command 0x450000 :: [] ∧
    unwritten.fault.code = 0 ∧ legalWord unwritten.cellN 0x410000 ∧ legalWord unwritten.cellN 0x450000 ∧
    CommandWord.unit 0x410000 = 0x4 ∧ CommandWord.fn 0x410000 ≠ 0x0 ∧
    CommandWord.unit 0x450000 = 0x4 ∧ CommandWord.fn 0x450000 ≠ 0x0 ∧ unwritten.val = none := by
  and_intros <;> first | decide | (unfold legalWord; decide)

theorem witness_FaultCausesAndPriority_zero :
    (offered 0x460000).host = .command 0x460000 :: [.reset] ∧ (offered 0x460000).fault.code = 0 ∧
    legalWord (offered 0x460000).cellN 0x460000 ∧ CommandWord.unit 0x460000 = 0x4 ∧
    (CommandWord.fn 0x460000 = 0x5 ∨ CommandWord.fn 0x460000 = 0x6) ∧ CommandWord.imm 0x460000 = 0 ∧
    (offered 0x460000).val ≠ none := by
  and_intros <;> first | decide | (unfold legalWord; decide)

/-- CELL.SETB of an unwritten cell and CELL.DIV by 1 of a written one are in no other clause. -/
theorem witness_FaultCausesAndPriority_none :
    legalWord unwritten.cellN 0x400001 ∧ CommandWord.fn 0x400001 = 0x0 ∧
    legalWord running.cellN 0x450001 ∧ running.val ≠ none ∧ CommandWord.imm 0x450001 ≠ 0 ∧
    running.fault.code = 0 ∧ unwritten.fault.code = 0 := by
  and_intros <;> first | decide | (unfold legalWord; decide)

theorem witness_RegistersStayConsistent : (offered 0x42000F).registersConsistent ∧
    step (offered 0x42000F) = .next { running with val := some 14, res := 0x0000, host := [.reset] } :=
  ⟨rfl, rfl⟩

theorem witness_IdempotentCommands :
    exec (.cellMod 4) running = .next { running with val := some 3, res := 0x0000 } ∧
    ((Instr.cellMod 4).unit = 0x4 ∧ (Instr.cellMod 4).fn = 0x6) ∧
    exec .trkAxchg unwritten = .next { unwritten with axmask := some 0x1, res := 0x0001 } ∧
    (Instr.trkAxchg.unit = 0x3 ∧ Instr.trkAxchg.fn ≠ 0x0) ∧
    running.fault = .noFault ∧
    exec (.trkUpdate 0xFFFE) running =
      .next { running with current := 0x0001, diff := 0x0003, res := 0x0000 } :=
  ⟨rfl, ⟨rfl, rfl⟩, rfl, ⟨rfl, by decide⟩, rfl, rfl⟩

end Sys2Proof.Tests
end

section
/-!
PROOFS. The scope of the block (00_scope.md): which widths exist, what CELL_W is, and the flags.
-/

namespace Sys2Proof

/-- A width in range is taken as it is, never clamped (00_scope.md R4). -/
theorem CellN.ofNat?_of_inRange {k : Nat} (h : 1 ≤ k ∧ k ≤ 15) :
    CellN.ofNat? k = some ⟨k, h.1, h.2⟩ :=
  dif_pos h

theorem CellN.ofNat?_of_outOfRange {k : Nat} (h : ¬ (1 ≤ k ∧ k ≤ 15)) : CellN.ofNat? k = none :=
  dif_neg h

theorem CellN.width_eq_two_pow (n : CellN) : ∃ j ≤ 4, n.width = 2 ^ j := by
  obtain h | h | h | h | h := width_cases n
  · exact ⟨0, by decide, h⟩
  · exact ⟨1, by decide, h⟩
  · exact ⟨2, by decide, h⟩
  · exact ⟨3, by decide, h⟩
  · exact ⟨4, by decide, h⟩

/-- CELL_W lies in the one interval `[CELL_N, 2 * CELL_N)` that holds a single power of two. -/
theorem CellN.width_bounds (n : CellN) : n.val ≤ n.width ∧ n.width < 2 * n.val := by
  have hpos := n.pos
  have hle := n.le
  unfold CellN.width
  split_ifs <;> omega

theorem CellN.val_add_padding (n : CellN) : n.val + n.padding = n.width :=
  Nat.add_sub_of_le n.width_bounds.1

/-- CELL_W is the least power of two that is at least CELL_N: it is below twice any other one, and
powers of two grow by doubling. -/
theorem CellN.width_le_two_pow {n : CellN} {k : Nat} (h : n.val ≤ 2 ^ k) : n.width ≤ 2 ^ k := by
  obtain ⟨j, -, hj⟩ := n.width_eq_two_pow
  have hlt : 2 ^ j < 2 ^ (k + 1) := by
    calc 2 ^ j = n.width := hj.symm
      _ < 2 * n.val := n.width_bounds.2
      _ ≤ 2 * 2 ^ k := Nat.mul_le_mul_left 2 h
      _ = 2 ^ (k + 1) := (Nat.pow_succ').symm
  have hjk : j ≤ k := Nat.lt_succ_iff.mp ((Nat.pow_lt_pow_iff_right (by decide)).mp hlt)
  exact hj ▸ Nat.pow_le_pow_right (by decide) hjk

theorem CellN.width_le_sixteen (n : CellN) : n.width ≤ 16 := by
  obtain ⟨j, hj, hw⟩ := n.width_eq_two_pow
  exact hw ▸ Nat.pow_le_pow_right (by decide) hj

namespace Machine

theorem dpadMask_eq_or_flags :
    dpadMask = Line.flag .right ||| Line.flag .left ||| Line.flag .up ||| Line.flag .down := by decide

theorem assignedMask_eq_or_flags :
    assignedMask = dpadMask ||| Line.flag .a ||| Line.flag .b ||| Line.flag .select |||
      Line.flag .start ||| Line.flag .r ||| Line.flag .l := by decide

theorem reservedMask_eq_not_assignedMask : reservedMask = ~~~assignedMask := by decide

/-- Settles O1: the check of `CellN.ofNat?` decides whether a block is built, and of which width. -/
theorem widthOutsideOneToFifteenRefused : Obligations.WidthOutsideOneToFifteenRefused := by
  intro k
  constructor
  · intro h
    exact congrArg (Option.map State.resetFor) (CellN.ofNat?_of_inRange h)
  · intro h
    exact congrArg (Option.map State.resetFor) (CellN.ofNat?_of_outOfRange h)

/-- Settles O2: CELL_W is a power of two in `[CELL_N, 2 * CELL_N)`, so the least one from CELL_N
up. -/
theorem cellWidthIsSmallestPowerOfTwo : Obligations.CellWidthIsSmallestPowerOfTwo := by
  intro n
  obtain ⟨j, -, hj⟩ := n.width_eq_two_pow
  exact ⟨⟨j, hj⟩, n.width_bounds.1, fun _ => CellN.width_le_two_pow, n.val_add_padding,
    n.width_le_sixteen⟩

/-- Settles O3: the flags and the masks are literals, so their values hold by computation; the three
mask lemmas say how the masks are made of the flags. -/
theorem flagConstantsAndMasks : Obligations.FlagConstantsAndMasks :=
  ⟨rfl, rfl, rfl, rfl, rfl, rfl, rfl, rfl, rfl, rfl, rfl, rfl, rfl,
    dpadMask_eq_or_flags, assignedMask_eq_or_flags, reservedMask_eq_not_assignedMask⟩

end Machine
end Sys2Proof
end

section
/-!
PROOFS. The state of the block (10_state.md): its values after reset, what its ports show, which
registers each unit writes, and the relations between registers that every step keeps.
-/

namespace Sys2Proof.Machine

/-- The truncation is the residue itself: 16 bits lose nothing of a residue modulo `2^CELL_W`
(43_packedbitcell.md R122). -/
theorem toNat_truncW (n : CellN) (z : Int) : ((truncW n z).toNat : Int) = z % 2 ^ n.width := by
  have hpos : (0 : Int) < 2 ^ n.width := by positivity
  have hle : (2 : Int) ^ n.width ≤ 65536 := by exact_mod_cast two_pow_width_le n
  have hlow := Int.emod_nonneg z hpos.ne'
  have hhigh := Int.emod_lt_of_pos z hpos
  rw [truncW, BitVec.toNat_ofNat, Nat.mod_eq_of_lt (by omega), Int.toNat_of_nonneg hlow]

theorem truncW_lt (n : CellN) (z : Int) : (truncW n z).toNat < 2 ^ n.width := by
  have h : ((truncW n z).toNat : Int) < 2 ^ n.width :=
    toNat_truncW n z ▸ Int.emod_lt_of_pos z (by positivity)
  exact_mod_cast h

/-- A halted block ignores every command (60_exceptions.md R153). -/
theorem exec_halted (i : Instr) {s : State} (h : s.fault ≠ .noFault) :
    exec i s = .next (ignore s) := by
  cases i with
  | cellAdd y | cellSub y | cellMul y | cellDiv y | cellMod y | cellShl y | cellShr y | cellAnd y
  | cellOr y | cellXor y => exact congrArg Host.Outcome.next (cellOperation_halted _ y _ h)
  | _ => exact congrArg Host.Outcome.next (whenRunning_halted _ h)

/-- What a command can leave behind, by the registers it writes: only a result, the registers of the
tracker, a value in the cell, or a recorded fault. -/
inductive ExecEffect (i : Instr) (s : State) : State → Prop where
  /-- Nothing but a result; the only end of a command in a halted block. -/
  | result (r : Bitmask) : ExecEffect i s (finish r s)
  /-- A TRK command that writes the tracker. -/
  | track (cur d : Bitmask) (ax : Option AxisMask) (r : Bitmask) (unit : i.unit = 0x3) :
      ExecEffect i s { s with current := cur, diff := d, axmask := ax, res := r }
  /-- A CELL command that writes a `CELL_W`-bit value. -/
  | write (v : BitVec 16) (unit : i.unit = 0x4) (fits : v.toNat < 2 ^ s.cellN.width) :
      ExecEffect i s (finish 0x0000 (writeVal v s))
  /-- A CELL command that takes a fault, in a block that was running. -/
  | fault (c : FaultCode) (unit : i.unit = 0x4) (running : s.fault = .noFault)
      (code : c ≠ .noFault) : ExecEffect i s (raise c (encode i) s)

namespace ExecEffect

variable {i : Instr} {s t : State}

/-- A cell operation has an effect of this kind if what it does with the cell's value has. -/
theorem of_cellOperation (unit : i.unit = 0x4) (y : Bitmask) {use : BitVec 16 → State → State}
    (hs : s.fault = .noFault) (huse : ∀ v, ExecEffect i s (use v s)) :
    ExecEffect i s (cellOperation (encode i) y use s) := by
  obtain ⟨hf, -⟩ | ⟨-, -, e⟩ | ⟨-, -, -, e⟩ | ⟨-, -, v, -, e⟩ :=
    cellOperation_cases (encode i) y use s
  · exact absurd hs hf
  · exact e ▸ .fault _ unit hs (by decide)
  · exact e ▸ .fault _ unit hs (by decide)
  · exact e ▸ huse v

theorem of_writeArith (unit : i.unit = 0x4) (f : Nat → Nat → Int) (y : Bitmask) (v : BitVec 16) :
    ExecEffect i s (writeArith f y v s) :=
  .write _ unit (truncW_lt _ _)

/-- Every command that goes on has one of the four effects. -/
theorem of_exec (h : exec i s = .next t) : ExecEffect i s t := by
  suffices hu : ∃ u, exec i s = .next u ∧ ExecEffect i s u by
    obtain ⟨u, e, hu⟩ := hu
    exact Host.Outcome.next.inj (e.symm.trans h) ▸ hu
  by_cases hs : s.fault = .noFault
  · cases exec_running i hs with
    | result r _ _ e => exact ⟨_, e, .result r⟩
    | update raw hi e =>
      refine ⟨_, e, ?_⟩
      rw [updateTracker_eq]
      exact .track _ _ _ _ (hi ▸ rfl)
    | axisChange hi e =>
      refine ⟨_, e, ?_⟩
      obtain ⟨-, l⟩ | ⟨-, l⟩ := latchAxis_cases s
      · exact l ▸ .result _
      · exact l ▸ .track _ _ _ _ (hi ▸ rfl)
    | setBool t hi e =>
      refine ⟨_, e, .write _ (hi ▸ rfl) ?_⟩
      cases t
      · exact Nat.two_pow_pos _
      · exact one_lt_two_pow_width _
    | get hi e =>
      refine ⟨_, e, ?_⟩
      obtain ⟨-, r⟩ | ⟨v, -, r⟩ := readCell_cases (encode i) finish s
      · exact r ▸ .fault _ (hi ▸ rfl) hs (by decide)
      · exact r ▸ .result v
    | arith f unit _ _ _ e => exact ⟨_, e, of_cellOperation unit _ hs (of_writeArith unit f _)⟩
    | divide f unit _ _ e =>
      refine ⟨_, e, of_cellOperation unit _ hs fun v => ?_⟩
      split
      · exact .fault _ unit hs (by decide)
      · exact of_writeArith unit f _ v
  · exact ⟨_, exec_halted i hs, .result _⟩

theorem cellN_eq (h : ExecEffect i s t) : t.cellN = s.cellN := by cases h <;> rfl

theorem host_eq (h : ExecEffect i s t) : t.host = s.host := by cases h <;> rfl

theorem frame_stateless (h : ExecEffect i s t)
    (unit : i.unit = 0x0 ∨ i.unit = 0x1 ∨ i.unit = 0x2) : t = { s with res := t.res } := by
  cases h with
  | result => rfl
  | track _ _ _ _ u | write _ u | fault _ u => simp [u] at unit

theorem frame_tracker (h : ExecEffect i s t) (unit : i.unit = 0x3) :
    t = { s with current := t.current, diff := t.diff, axmask := t.axmask, res := t.res } := by
  cases h with
  | result | track => rfl
  | write _ u | fault _ u => simp [u] at unit

theorem frame_cell (h : ExecEffect i s t) (unit : i.unit = 0x4) :
    t = { s with val := t.val, fault := t.fault, fcmd := t.fcmd, res := t.res } := by
  cases h with
  | result | write | fault => rfl
  | track _ _ _ _ u => simp [u] at unit

/-- No command takes the value of a written cell away. -/
theorem val_isSome (h : ExecEffect i s t) (hv : s.val.isSome) : t.val.isSome := by
  cases h with
  | result | track | fault => exact hv
  | write => rfl

end ExecEffect

theorem cellFits_iff (s : State) :
    s.cellFits ↔ ∀ v, s.val = some v → v.toNat < 2 ^ s.cellN.width := by
  cases hv : s.val <;> simp [State.cellFits, hv]

theorem fcmdIdle_iff (s : State) : s.fcmdIdle ↔ (s.fault = .noFault → s.fcmd = 0x000000) :=
  decide_eq_true_iff

/-- The invariant, read as a statement about the four fields it speaks of (10_state.md R16, R19). -/
theorem registersConsistent_iff (s : State) : s.registersConsistent ↔
    (∀ v, s.val = some v → v.toNat < 2 ^ s.cellN.width) ∧
    (s.fault = .noFault → s.fcmd = 0x000000) := by
  rw [State.registersConsistent, Bool.and_eq_true, cellFits_iff, fcmdIdle_iff]

theorem resetFor_registersConsistent (n : CellN) : (State.resetFor n).registersConsistent := rfl

theorem applyReset_registersConsistent (s : State) : (applyReset s).registersConsistent := rfl

/-- Recording a fault keeps the invariant: FCMD is free once FAULT is not 0. -/
theorem raise_registersConsistent {s : State} {c : FaultCode} (w : CommandWord)
    (h : s.registersConsistent) (hc : c ≠ .noFault) : (raise c w s).registersConsistent := by
  obtain ⟨hval, -⟩ := (registersConsistent_iff s).mp h
  exact (registersConsistent_iff _).mpr ⟨hval, fun hf => absurd hf hc⟩

theorem writeVal_registersConsistent {s : State} {v : BitVec 16} (h : s.registersConsistent)
    (fits : v.toNat < 2 ^ s.cellN.width) : (writeVal v s).registersConsistent := by
  obtain ⟨-, hfcmd⟩ := (registersConsistent_iff s).mp h
  refine (registersConsistent_iff _).mpr ⟨?_, hfcmd⟩
  rintro u ⟨⟩
  exact fits

/-- Every command keeps the invariant. -/
theorem ExecEffect.registersConsistent {i : Instr} {s t : State} (h : ExecEffect i s t)
    (hs : s.registersConsistent) : t.registersConsistent := by
  cases h with
  | result | track => exact hs
  | write v _ fits =>
    have kept : (writeVal v s).registersConsistent := writeVal_registersConsistent hs fits
    exact kept
  | fault c _ _ code => exact raise_registersConsistent _ hs code

/-- Every word presented, legal or not, keeps the invariant and CELL_N. -/
theorem present_registersConsistent {w : CommandWord} {s t : State} (hs : s.registersConsistent)
    (h : present w s = .next t) : t.registersConsistent ∧ t.cellN = s.cellN := by
  obtain ⟨-, e⟩ | ⟨-, -, e⟩ | ⟨-, i, -, e⟩ := present_cases w s <;> rw [e] at h
  · cases h
    exact ⟨hs, rfl⟩
  · cases h
    exact ⟨raise_registersConsistent w hs (by decide), rfl⟩
  · have effect := ExecEffect.of_exec h
    exact ⟨effect.registersConsistent hs, effect.cellN_eq⟩

/-- Settles O53: the host does nothing, asserts reset or presents a word, and each of the three
keeps the invariant; what the host does later is no part of it. -/
theorem registersStayConsistent : Obligations.RegistersStayConsistent := by
  intro s t hs h
  obtain ⟨-, e⟩ | ⟨rest, -, e⟩ | ⟨w, rest, -, e⟩ := step_cases s <;> rw [e] at h
  · cases h
    exact ⟨hs, rfl⟩
  · cases h
    exact ⟨applyReset_registersConsistent _, rfl⟩
  · exact present_registersConsistent (s := { s with host := rest }) hs h

/-- Settles O46: each of the four effects writes registers of one unit only. -/
theorem unitFrames : Obligations.UnitFrames := by
  intro i s t h
  have effect := ExecEffect.of_exec h
  exact ⟨effect.frame_stateless, effect.frame_tracker,
    fun unit => ⟨effect.frame_cell unit, effect.val_isSome⟩, effect.cellN_eq, effect.host_eq⟩

/-- Settles O14: the reset state lists its values, and the model starts the block of
`Config.cellN`. -/
theorem resetValues : Obligations.ResetValues :=
  ⟨fun n => ⟨resetFor_current n, resetFor_diff n, resetFor_axmask n, resetFor_val n,
    resetFor_fault n, resetFor_fcmd n, resetFor_res n, resetFor_cellN n⟩, Config.cellN, rfl⟩

/-- The valid bit of the axis mask and the mask go together (10_state.md R15, R25). -/
theorem outputs_axmaskV_iff (s : State) : (outputs s).axmaskV = true ↔
    ∃ m, s.axmask = some m ∧ (outputs s).axmaskQ = some m := by
  simp [outputs, Option.isSome_iff_exists]

/-- Settles O49: the port shows `FaultCode.code` of FAULT, and the other ports the registers. -/
theorem faultPortShowsTheCode : Obligations.FaultPortShowsTheCode := by
  intro s
  have port {c : FaultCode} (h : s.fault = c) : (outputs s).faultQ = c.code :=
    congrArg FaultCode.code h
  exact ⟨port, port, port, port, rfl, rfl, outputs_axmaskV_iff s⟩

/-- Settles O54: the reset state of every CELL_N meets the invariant, that of `Config.cellN` among
them. -/
theorem resetIsConsistent : Obligations.ResetIsConsistent :=
  ⟨resetFor_registersConsistent, resetFor_registersConsistent Config.cellN⟩

end Sys2Proof.Machine
end

section
/-!
PROOFS. The command space and repeated commands (20_memory.md R31, R34): how many function codes
are assigned, and which commands leave, when repeated, the state they left the first time.
-/

namespace Sys2Proof

theorem operandFits_zero (n : CellN) : operandFits n 0 = true :=
  decide_eq_true (Nat.two_pow_pos n.width)

/-- Operand 0 is legal in every format (30_encoding.md R42). -/
theorem wellFormed_of_imm_eq_zero (n : CellN) {i : Instr} (h : i.imm = 0) :
    i.wellFormed n = true := by
  cases i with
  | cellAdd y | cellSub y | cellMul y | cellDiv y | cellMod y | cellShl y | cellShr y | cellAnd y
  | cellOr y | cellXor y =>
    subst h
    exact operandFits_zero n
  | _ => rfl

theorem decodeZ_zero (i : Instr) : decodeZ 0 i = some i := rfl

theorem decodeB_zero (i : Bool → Instr) : decodeB 0 i = some (i false) := rfl

/-- What a unit and a function select with operand 0 is a command with operand 0. -/
theorem imm_of_decodeFields_zero {u f : Nat} {i : Instr} (h : decodeFields u f 0 = some i) :
    i.imm = 0 := by
  simp only [decodeFields, decodeRaw, decodeSnap, decodeSnapr, decodeTrk, decodeCell, decodeZ_zero,
    decodeB_zero] at h
  split at h
  case h_6 => cases h
  all_goals split at h <;> cases h <;> rfl

/-- CELL_N has no say in what a word with operand 0 selects. -/
theorem decode_of_imm_eq_zero (n : CellN) {w : CommandWord} (h : w.imm = 0) :
    decode n w = decodeFields w.unit.toNat w.fn.toNat 0 := by
  rw [decode, h]
  cases hi : decodeFields w.unit.toNat w.fn.toNat 0 with
  | none => rfl
  | some i =>
    exact Option.filter_some_pos (wellFormed_of_imm_eq_zero n (imm_of_decodeFields_zero hi))

/-- The value `k` of `cmd[23:16]` is unit `k / 16` and function `k % 16` (30_encoding.md R41). -/
theorem decode_ofNat_opcode (n : CellN) {k : Nat} (hk : k < 256) :
    decode n (BitVec.ofNat 24 (k * 65536)) = decodeFields (k / 16) (k % 16) 0 := by
  have word : (BitVec.ofNat 24 (k * 65536)).toNat = k * 65536 :=
    Nat.mod_eq_of_lt (by omega)
  have imm : CommandWord.imm (BitVec.ofNat 24 (k * 65536)) = 0 := by
    apply BitVec.eq_of_toNat_eq
    rw [toNat_imm, word]
    exact Nat.mul_mod_left k 65536
  have unit : k * 65536 / 1048576 = k / 16 := by omega
  rw [decode_of_imm_eq_zero n imm, toNat_unit, toNat_fn, word, unit,
    Nat.mul_div_cancel k (by decide)]

theorem length_filter_decodeFields :
    ((List.range 256).filter (fun k => (decodeFields (k / 16) (k % 16) 0).isSome)).length = 43 := by
  decide

namespace Machine

/-- Settles O9: with operand 0 CELL_N has no say, and what is left can be counted. -/
theorem fortyThreeFunctionCodesAssigned : Obligations.FortyThreeFunctionCodesAssigned := by
  refine ⟨fun n => ?_, rfl⟩
  have same : ∀ k ∈ List.range 256,
      (decode n (BitVec.ofNat 24 (k * 65536))).isSome =
        (decodeFields (k / 16) (k % 16) 0).isSome :=
    fun k hk => congrArg Option.isSome (decode_ofNat_opcode n (List.mem_range.mp hk))
  rw [List.filter_congr same, length_filter_decodeFields]

theorem updateTracker_finish (n r : Bitmask) (s : State) :
    updateTracker n (finish r s) = updateTracker n s := by
  rw [updateTracker_eq, updateTracker_eq]
  rfl

theorem whenRunning_finish {effect : State → State} {r : Bitmask} {s : State}
    (h : effect (finish r s) = effect s) :
    whenRunning effect (finish r s) = whenRunning effect s := by
  rw [whenRunning, whenRunning, h]
  rfl

/-- No command reads the result port, and every command writes it (30_encoding.md R46). The update
alone does not show this by computation, as it may or may not write CURRENT. -/
theorem exec_finish (i : Instr) (r : Bitmask) (s : State) : exec i (finish r s) = exec i s := by
  cases i with
  | trkUpdate raw =>
    exact congrArg Host.Outcome.next (whenRunning_finish (updateTracker_finish _ r s))
  | _ => rfl

/-- A command that left only a result leaves the same result again. -/
theorem exec_repeated_of_result {i : Instr} {r : Bitmask} {s : State}
    (h : exec i s = .next (finish r s)) : exec i (finish r s) = .next (finish r s) :=
  (exec_finish i r s).trans h

/-- After a fault every command is ignored, and the result is 0 already. -/
theorem exec_repeated_of_fault (i : Instr) {c : FaultCode} (w : CommandWord) (s : State)
    (hc : c ≠ .noFault) : exec i (raise c w s) = .next (raise c w s) :=
  exec_halted i hc

theorem latchAxis_latchAxis (s : State) : latchAxis (latchAxis s) = latchAxis s := by
  obtain ⟨hd, e⟩ | ⟨hd, e⟩ := latchAxis_cases s <;> rw [e]
  · exact if_pos hd
  · exact if_neg hd

/-- A cell operation leaves the same state again if what it does with a value does: the other ends
are an ignored command and two faults. -/
theorem exec_repeated_of_cellOperation {i : Instr} {y : Bitmask} {use : BitVec 16 → State → State}
    {s t : State} (e : exec i s = .next (cellOperation (encode i) y use s))
    (huse : ∀ v, s.fault = .noFault → y.toNat < 2 ^ s.cellN.width →
      exec i (use v s) = .next (use v s))
    (h : exec i s = .next t) : exec i t = .next t := by
  obtain rfl : cellOperation (encode i) y use s = t := Host.Outcome.next.inj (e.symm.trans h)
  obtain ⟨-, c⟩ | ⟨-, -, c⟩ | ⟨-, -, -, c⟩ | ⟨hs, hy, v, -, c⟩ :=
    cellOperation_cases (encode i) y use s <;> rw [c] at h ⊢
  · exact exec_repeated_of_result h
  · exact exec_repeated_of_fault i _ s (by decide)
  · exact exec_repeated_of_fault i _ s (by decide)
  · exact huse v hs hy

theorem toNat_truncW_natCast (n : CellN) (k : Nat) : (truncW n k).toNat = k % 2 ^ n.width := by
  exact_mod_cast toNat_truncW n k

theorem and_truncated_idempotent {y W : Nat} (v : Nat) (hy : y < W) :
    ((v &&& y) % W &&& y) % W = (v &&& y) % W := by
  have fits : v &&& y < W := Nat.lt_of_le_of_lt Nat.and_le_right hy
  rw [Nat.mod_eq_of_lt fits, Nat.and_assoc, Nat.and_self, Nat.mod_eq_of_lt fits]

theorem or_truncated_idempotent (v y w : Nat) :
    ((v ||| y) % 2 ^ w ||| y) % 2 ^ w = (v ||| y) % 2 ^ w := by
  rw [Nat.or_mod_two_pow, Nat.mod_mod, ← Nat.or_mod_two_pow, Nat.or_assoc, Nat.or_self]

theorem mod_truncated_idempotent {y W : Nat} (v : Nat) (h0 : 0 < y) (hy : y < W) :
    (v % y) % W % y % W = v % y % W := by
  have fits : v % y < W := (Nat.mod_lt v h0).trans hy
  rw [Nat.mod_eq_of_lt fits, Nat.mod_mod, Nat.mod_eq_of_lt fits]

/-- A cell operation that writes `trunc_W (g VAL y)` leaves the same state again if `g` gives its own
truncated result again. -/
theorem exec_repeated_of_writeArith {i : Instr} {y : Bitmask} {use : BitVec 16 → State → State}
    {g : Nat → Nat → Nat} {s t : State}
    (e : ∀ s, exec i s = .next (cellOperation (encode i) y use s))
    (huse : ∀ v s, use v s = writeArith (fun v y => (g v y : Nat)) y v s)
    (hg : ∀ v, y.toNat < 2 ^ s.cellN.width →
      g (g v y.toNat % 2 ^ s.cellN.width) y.toNat % 2 ^ s.cellN.width =
        g v y.toNat % 2 ^ s.cellN.width)
    (h : exec i s = .next t) : exec i t = .next t := by
  refine exec_repeated_of_cellOperation (e s) (fun v hs hy => ?_) h
  obtain ⟨u, hu⟩ : ∃ u, truncW s.cellN (g v.toNat y.toNat : Nat) = u := ⟨_, rfl⟩
  have written : use v s = finish 0x0000 (writeVal u s) := hu ▸ huse v s
  have again : truncW s.cellN (g u.toNat y.toNat : Nat) = u := by
    apply BitVec.eq_of_toNat_eq
    rw [← hu, toNat_truncW_natCast, toNat_truncW_natCast, hg v.toNat hy]
  rw [written]
  calc exec i (finish 0x0000 (writeVal u s))
      = .next (use u (finish 0x0000 (writeVal u s))) :=
        (e _).trans (congrArg _ (cellOperation_value _ _ _ hs rfl hy))
    _ = .next (finish 0x0000 (writeVal (truncW s.cellN (g u.toNat y.toNat : Nat)) s)) :=
        congrArg _ (huse u _)
    _ = .next (finish 0x0000 (writeVal u s)) := by rw [again]

theorem cellAnd_repeated {y : Bitmask} {s t : State} (h : exec (.cellAnd y) s = .next t) :
    exec (.cellAnd y) t = .next t :=
  exec_repeated_of_writeArith (g := fun v y => v &&& y) (fun _ => rfl) (fun _ _ => rfl)
    (fun v hy => and_truncated_idempotent v hy) h

theorem cellOr_repeated {y : Bitmask} {s t : State} (h : exec (.cellOr y) s = .next t) :
    exec (.cellOr y) t = .next t :=
  exec_repeated_of_writeArith (g := fun v y => v ||| y) (fun _ => rfl) (fun _ _ => rfl)
    (fun v _ => or_truncated_idempotent v y.toNat s.cellN.width) h

/-- With a zero divisor no value is written: the command is ignored or takes a fault
(60_exceptions.md R156). -/
theorem cellMod_repeated {y : Bitmask} {s t : State} (h : exec (.cellMod y) s = .next t) :
    exec (.cellMod y) t = .next t := by
  by_cases h0 : y = 0
  · refine exec_repeated_of_cellOperation (y := y) rfl (fun v _ _ => ?_) h
    rw [if_pos h0]
    exact exec_repeated_of_fault _ _ s (by decide)
  · have pos : 0 < y.toNat := Nat.pos_of_ne_zero fun z => h0 (BitVec.eq_of_toNat_eq z)
    exact exec_repeated_of_writeArith (g := fun v y => v % y) (fun _ => rfl)
      (fun _ _ => if_neg h0) (fun v hy => mod_truncated_idempotent v pos hy) h

/-- The commands that 20_memory.md R34 names as idempotent. -/
def Idempotent (i : Instr) : Prop :=
  i.unit = 0x0 ∨ i.unit = 0x1 ∨ i.unit = 0x2 ∨ (i.unit = 0x3 ∧ i.fn ≠ 0x0) ∨
    (i.unit = 0x4 ∧ (i.fn ≤ 0x1 ∨ i.fn = 0x6 ∨ i.fn = 0x9 ∨ i.fn = 0xA))

/-- A cell arithmetic command among them is CELL.AND, CELL.OR or CELL.MOD. -/
theorem Idempotent.arith_cases {i : Instr} (hi : Idempotent i) (unit : i.unit = 0x4)
    (fn : 0x2 ≤ i.fn) : ∃ y, i = .cellAnd y ∨ i = .cellOr y ∨ i = .cellMod y := by
  cases i with
  | cellAnd y => exact ⟨y, .inl rfl⟩
  | cellOr y => exact ⟨y, .inr (.inl rfl)⟩
  | cellMod y => exact ⟨y, .inr (.inr rfl)⟩
  | _ => simp [Idempotent, Instr.unit, Instr.fn] at hi unit fn

theorem Idempotent.repeated_arith {i : Instr} {s t : State} (hi : Idempotent i)
    (unit : i.unit = 0x4) (fn : 0x2 ≤ i.fn) (h : exec i s = .next t) : exec i t = .next t := by
  obtain ⟨y, rfl | rfl | rfl⟩ := hi.arith_cases unit fn
  · exact cellAnd_repeated h
  · exact cellOr_repeated h
  · exact cellMod_repeated h

/-- In a running block, by the seven kinds of command; a halted block ignores the command twice. -/
theorem Idempotent.repeated {i : Instr} {s t : State} (hi : Idempotent i)
    (h : exec i s = .next t) : exec i t = .next t := by
  by_cases hs : s.fault = .noFault
  · cases exec_running i hs with
    | result r _ _ e =>
      obtain rfl := Host.Outcome.next.inj (e.symm.trans h)
      exact exec_repeated_of_result h
    | update raw instr => simp [instr, Idempotent, Instr.unit, Instr.fn] at hi
    | axisChange instr e =>
      obtain rfl := Host.Outcome.next.inj (e.symm.trans h)
      subst instr
      have running : (latchAxis s).fault = .noFault := by
        obtain ⟨-, l⟩ | ⟨-, l⟩ := latchAxis_cases s <;> rw [l] <;> exact hs
      exact congrArg Host.Outcome.next
        ((whenRunning_running latchAxis running).trans (latchAxis_latchAxis s))
    | setBool b instr e =>
      obtain rfl := Host.Outcome.next.inj (e.symm.trans h)
      subst instr
      exact congrArg Host.Outcome.next (whenRunning_running _ hs)
    | get instr e =>
      obtain rfl := Host.Outcome.next.inj (e.symm.trans h)
      obtain ⟨-, r⟩ | ⟨v, -, r⟩ := readCell_cases (encode i) finish s <;> rw [r] at h ⊢
      · exact exec_repeated_of_fault i _ s (by decide)
      · exact exec_repeated_of_result h
    | arith _ unit fn => exact hi.repeated_arith unit fn h
    | divide _ unit fn =>
      exact hi.repeated_arith unit (by obtain fn | fn := fn <;> rw [fn] <;> decide) h
  · obtain rfl := Host.Outcome.next.inj ((exec_halted i hs).symm.trans h)
    exact exec_repeated_of_result h

theorem updateTracker_updateTracker (n : Bitmask) (s : State) :
    updateTracker n (updateTracker n s) = { updateTracker n s with diff := 0x0000 } := by
  simp [updateTracker_eq]

theorem exec_trkUpdate_running {s : State} (raw : Bitmask) (hs : s.fault = .noFault) :
    exec (.trkUpdate raw) s = .next (updateTracker (normRaw raw) s) :=
  congrArg Host.Outcome.next (whenRunning_running _ hs)

theorem updateTracker_fault (n : Bitmask) (s : State) : (updateTracker n s).fault = s.fault := by
  rw [updateTracker_eq]

/-- Settles O55: `Idempotent.repeated` for the named commands; an update repeated finds CURRENT at
its own value, so that no line differs. -/
theorem idempotentCommands : Obligations.IdempotentCommands := by
  refine ⟨fun i s t h hi => Idempotent.repeated hi h, fun raw s t hs h => ?_⟩
  obtain rfl := Host.Outcome.next.inj ((exec_trkUpdate_running raw hs).symm.trans h)
  rw [exec_trkUpdate_running raw ((updateTracker_fault _ s).trans hs),
    updateTracker_updateTracker]

end Machine
end Sys2Proof
end

section
/-!
PROOFS. The encoding (30_encoding.md R40 to R53): a word and its fields, the decoder and the encoder
as inverses of each other, the legal words, the opcode table, and the step for a word presented.
-/

namespace Sys2Proof

/-- Every word is the word of its fields (30_encoding.md R41). -/
theorem ofFields_fields (w : CommandWord) : CommandWord.ofFields w.unit w.fn w.imm = w := by
  apply BitVec.eq_of_toNat_eq
  rw [toNat_ofFields, toNat_unit, toNat_fn, toNat_imm]
  omega

theorem ofFields_inj {u u' f f' : BitVec 4} {imm imm' : Bitmask} :
    CommandWord.ofFields u f imm = CommandWord.ofFields u' f' imm' ↔
      u = u' ∧ f = f' ∧ imm = imm' := by
  constructor
  · intro h
    have unit := congrArg CommandWord.unit h
    have fn := congrArg CommandWord.fn h
    have operand := congrArg CommandWord.imm h
    simp only [unit_ofFields, fn_ofFields, imm_ofFields] at unit fn operand
    exact ⟨unit, fn, operand⟩
  · rintro ⟨rfl, rfl, rfl⟩
    rfl

@[simp] theorem unit_encode (i : Instr) : (encode i).unit = i.unit := unit_ofFields ..

@[simp] theorem fn_encode (i : Instr) : (encode i).fn = i.fn := fn_ofFields ..

@[simp] theorem imm_encode (i : Instr) : (encode i).imm = i.imm := imm_ofFields ..

/-! ### The decoder and the encoder -/

theorem eq_zero_or_one_of_toNat_le_one {imm : Bitmask} (h : imm.toNat ≤ 1) :
    imm = 0 ∨ imm = 1 := by
  bv_omega

theorem decodeZ_eq_some {imm : Bitmask} {i j : Instr} (h : decodeZ imm i = some j) :
    imm = 0 ∧ j = i := by
  unfold decodeZ at h
  split at h
  · cases h
    exact ⟨‹_›, rfl⟩
  · cases h

theorem decodeB_eq_some {imm : Bitmask} {i : Bool → Instr} {j : Instr}
    (h : decodeB imm i = some j) :
    (imm = 0 ∧ j = i false) ∨ (imm = 1 ∧ j = i true) := by
  unfold decodeB at h
  split at h
  · obtain rfl | rfl := eq_zero_or_one_of_toNat_le_one ‹_› <;> cases h
    · exact .inl ⟨rfl, rfl⟩
    · exact .inr ⟨rfl, rfl⟩
  · cases h

/-- The fields of a command select that command. -/
theorem decodeFields_of_instr (i : Instr) :
    decodeFields i.unit.toNat i.fn.toNat i.imm = some i := by
  cases i with
  | cellSetb t => cases t <;> rfl
  | _ => rfl

/-- What a unit, a function and an operand select is the command with those fields. -/
theorem fields_of_decodeFields {u f : Nat} {imm : Bitmask} {i : Instr}
    (h : decodeFields u f imm = some i) : i.unit.toNat = u ∧ i.fn.toNat = f ∧ i.imm = imm := by
  unfold decodeFields at h
  split at h
  case h_1 => unfold decodeRaw at h; split at h <;> cases h; exact ⟨rfl, rfl, rfl⟩
  case h_2 => unfold decodeSnap at h; split at h <;> cases h <;> exact ⟨rfl, rfl, rfl⟩
  case h_3 => unfold decodeSnapr at h; split at h <;> cases h <;> exact ⟨rfl, rfl, rfl⟩
  case h_4 =>
    unfold decodeTrk at h
    split at h
    case h_6 => obtain ⟨rfl, rfl⟩ := decodeZ_eq_some h; exact ⟨rfl, rfl, rfl⟩
    all_goals cases h <;> exact ⟨rfl, rfl, rfl⟩
  case h_5 =>
    unfold decodeCell at h
    split at h
    case h_1 =>
      obtain ⟨rfl, rfl⟩ | ⟨rfl, rfl⟩ := decodeB_eq_some h <;> exact ⟨rfl, rfl, rfl⟩
    case h_2 => obtain ⟨rfl, rfl⟩ := decodeZ_eq_some h; exact ⟨rfl, rfl, rfl⟩
    all_goals cases h <;> exact ⟨rfl, rfl, rfl⟩
  case h_6 => cases h

/-- Before the check of a format C operand a word selects exactly the command that it encodes. -/
theorem decodeFields_eq_some_iff {w : CommandWord} {i : Instr} :
    decodeFields w.unit.toNat w.fn.toNat w.imm = some i ↔ encode i = w := by
  constructor
  · intro h
    obtain ⟨unit, fn, operand⟩ := fields_of_decodeFields h
    rw [encode, BitVec.eq_of_toNat_eq unit, BitVec.eq_of_toNat_eq fn, operand, ofFields_fields]
  · rintro rfl
    simpa using decodeFields_of_instr i

/-- Decoder and encoder are inverse to each other between the legal words and the well-formed
commands (30_encoding.md R47). -/
theorem decode_eq_some_iff {n : CellN} {w : CommandWord} {i : Instr} :
    decode n w = some i ↔ encode i = w ∧ i.wellFormed n = true := by
  rw [decode, Option.filter_eq_some_iff, decodeFields_eq_some_iff]

/-- A word whose fields select a well-formed command decodes to it. -/
theorem decode_of_decodeFields {n : CellN} {w : CommandWord} {i : Instr}
    (h : decodeFields w.unit.toNat w.fn.toNat w.imm = some i) (legal : i.wellFormed n = true) :
    decode n w = some i :=
  Option.filter_eq_some_iff.mpr ⟨h, legal⟩

/-! ### The opcode table -/

/-- Every command meets the law of Laws/PerInstr.lean. -/
theorem Laws.EncodesToItsRow.statement : ∀ i : Instr, Statement i
  | .norm raw => norm raw
  | .snapA b => snapA b
  | .snapB b => snapB b
  | .snapSelect b => snapSelect b
  | .snapStart b => snapStart b
  | .snapRight b => snapRight b
  | .snapLeft b => snapLeft b
  | .snapUp b => snapUp b
  | .snapDown b => snapDown b
  | .snapR b => snapR b
  | .snapL b => snapL b
  | .snapAxisx b => snapAxisx b
  | .snapAxisy b => snapAxisy b
  | .snaprA raw => snaprA raw
  | .snaprB raw => snaprB raw
  | .snaprSelect raw => snaprSelect raw
  | .snaprStart raw => snaprStart raw
  | .snaprRight raw => snaprRight raw
  | .snaprLeft raw => snaprLeft raw
  | .snaprUp raw => snaprUp raw
  | .snaprDown raw => snaprDown raw
  | .snaprR raw => snaprR raw
  | .snaprL raw => snaprL raw
  | .snaprAxisx raw => snaprAxisx raw
  | .snaprAxisy raw => snaprAxisy raw
  | .trkUpdate raw => trkUpdate raw
  | .trkPressed k => trkPressed k
  | .trkReleased k => trkReleased k
  | .trkDown k => trkDown k
  | .trkUp k => trkUp k
  | .trkAxchg => trkAxchg
  | .cellSetb t => cellSetb t
  | .cellGet => cellGet
  | .cellAdd y => cellAdd y
  | .cellSub y => cellSub y
  | .cellMul y => cellMul y
  | .cellDiv y => cellDiv y
  | .cellMod y => cellMod y
  | .cellShl y => cellShl y
  | .cellShr y => cellShr y
  | .cellAnd y => cellAnd y
  | .cellOr y => cellOr y
  | .cellXor y => cellXor y

/-- The operand bits that the mask of a row covers, by its format: those that must be 0
(30_encoding.md R42, R45). -/
def Format.operandMask : Format → Bitmask
  | .v => 0x0000
  | .z => 0xFFFF
  | .b => 0xFFFE
  | .c => 0x0000

/-- The mask of a row covers the unit, the function and the operand bits of its format; in its match
value the operand is 0 (30_encoding.md R45). -/
theorem mask_and_bits_of_mem_opcodeTable {r : Row} (hr : r ∈ opcodeTable) :
    r.mask = CommandWord.ofFields 0xF 0xF r.format.operandMask ∧
    r.bits = CommandWord.ofFields r.bits.unit r.bits.fn 0 := by
  revert r
  decide

/-- Matching under such a mask, field by field. -/
theorem and_mask_eq_iff {w : CommandWord} {u f : BitVec 4} {m : Bitmask} :
    w &&& CommandWord.ofFields 0xF 0xF m = CommandWord.ofFields u f 0 ↔
      w.unit = u ∧ w.fn = f ∧ w.imm &&& m = 0 := by
  have full (x : BitVec 4) : x &&& 0xF = x := BitVec.and_allOnes
  conv_lhs => rw [← ofFields_fields w]
  rw [CommandWord.ofFields, CommandWord.ofFields, BitVec.and_append, BitVec.and_append, full, full]
  exact ofFields_inj

theorem eq_zero_of_operandMask_z {imm : Bitmask} (h : imm &&& Format.z.operandMask = 0) :
    imm = 0 :=
  BitVec.and_allOnes.symm.trans h

theorem eq_zero_or_one_of_operandMask_b {imm : Bitmask} (h : imm &&& Format.b.operandMask = 0) :
    imm = 0 ∨ imm = 1 := by
  have low : imm = imm &&& 1 := by
    calc imm = imm &&& (Format.b.operandMask ||| 1) := BitVec.and_allOnes.symm
      _ = (imm &&& Format.b.operandMask) ||| (imm &&& 1) := BitVec.and_or_distrib_left
      _ = imm &&& 1 := by rw [h]; exact BitVec.zero_or
  have value : imm.toNat = imm.toNat % 2 := by
    rw [← Nat.and_one_is_mod]
    exact congrArg BitVec.toNat low
  exact eq_zero_or_one_of_toNat_le_one (by omega)

/-- The fields of a row, with an operand of its format, select a command of its mnemonic. -/
def Row.Selects (r : Row) : Prop :=
  ∀ (n : CellN) (imm : Bitmask), imm &&& r.format.operandMask = 0 →
    (r.format = .c → imm.toNat < 2 ^ n.width) →
    ∃ i, decodeFields r.bits.unit.toNat r.bits.fn.toNat imm = some i ∧ i.wellFormed n = true ∧
      i.mnemonic = r.mnemonic

theorem selects_of_mem_rowsSnap {r : Row} (hr : r ∈ rowsSnap) : r.Selects := by
  intro n imm _ _
  fin_cases hr <;> exact ⟨_, rfl, rfl, rfl⟩

theorem selects_of_mem_rowsSnapr {r : Row} (hr : r ∈ rowsSnapr) : r.Selects := by
  intro n imm _ _
  fin_cases hr <;> exact ⟨_, rfl, rfl, rfl⟩

theorem selects_of_mem_rowsTrk {r : Row} (hr : r ∈ rowsTrk) : r.Selects := by
  intro n imm mask _
  fin_cases hr
  on_goal 6 =>
    obtain rfl := eq_zero_of_operandMask_z mask
    exact ⟨.trkAxchg, rfl, rfl, rfl⟩
  all_goals exact ⟨_, rfl, rfl, rfl⟩

theorem selects_of_mem_rowsCell {r : Row} (hr : r ∈ rowsCell) : r.Selects := by
  intro n imm mask fits
  fin_cases hr
  · obtain rfl | rfl := eq_zero_or_one_of_operandMask_b mask
    · exact ⟨.cellSetb false, rfl, rfl, rfl⟩
    · exact ⟨.cellSetb true, rfl, rfl, rfl⟩
  · obtain rfl := eq_zero_of_operandMask_z mask
    exact ⟨.cellGet, rfl, rfl, rfl⟩
  all_goals exact ⟨_, rfl, decide_eq_true (fits rfl), rfl⟩

/-- Unit by unit, every row selects its own command. -/
theorem selects_of_mem_opcodeTable {r : Row} (hr : r ∈ opcodeTable) : r.Selects := by
  simp only [opcodeTable, List.mem_append] at hr
  obtain (((raw | snap) | snapr) | trk) | cell := hr
  · obtain rfl := List.mem_singleton.mp raw
    exact fun _ imm _ _ => ⟨.norm imm, rfl, rfl, rfl⟩
  · exact selects_of_mem_rowsSnap snap
  · exact selects_of_mem_rowsSnapr snapr
  · exact selects_of_mem_rowsTrk trk
  · exact selects_of_mem_rowsCell cell

/-- A word that matches a row decodes to a command of the row's mnemonic. -/
theorem decode_of_matches_row {n : CellN} {w : CommandWord} {r : Row} (hr : r ∈ opcodeTable)
    (matching : w &&& r.mask = r.bits) (fits : r.format = .c → w.imm.toNat < 2 ^ n.width) :
    ∃ i, decode n w = some i ∧ i.mnemonic = r.mnemonic := by
  obtain ⟨mask, bits⟩ := mask_and_bits_of_mem_opcodeTable hr
  rw [mask, bits] at matching
  obtain ⟨unit, fn, operand⟩ := and_mask_eq_iff.mp matching
  obtain ⟨i, hi, legal, mnemonic⟩ := selects_of_mem_opcodeTable hr n w.imm operand fits
  rw [← unit, ← fn] at hi
  exact ⟨i, decode_of_decodeFields hi legal, mnemonic⟩

/-! ### The legal words -/

/-- The word of a well-formed command is legal. -/
theorem legalWord_encode {n : CellN} {i : Instr} (h : i.wellFormed n = true) :
    Machine.legalWord n (encode i) := by
  simp only [Machine.legalWord, unit_encode, fn_encode, imm_encode]
  cases i with
  | norm raw => exact .inl ⟨rfl, rfl⟩
  | snapA b | snapB b | snapSelect b | snapStart b | snapRight b | snapLeft b | snapUp b
  | snapDown b | snapR b | snapL b | snapAxisx b | snapAxisy b =>
    exact .inr (.inl ⟨.inl rfl, by simp [Instr.fn]⟩)
  | snaprA r | snaprB r | snaprSelect r | snaprStart r | snaprRight r | snaprLeft r | snaprUp r
  | snaprDown r | snaprR r | snaprL r | snaprAxisx r | snaprAxisy r =>
    exact .inr (.inl ⟨.inr rfl, by simp [Instr.fn]⟩)
  | trkUpdate k | trkPressed k | trkReleased k | trkDown k | trkUp k =>
    exact .inr (.inr (.inl ⟨rfl, by simp [Instr.fn]⟩))
  | trkAxchg => exact .inr (.inr (.inr (.inl ⟨rfl, rfl, rfl⟩)))
  | cellSetb t =>
    exact .inr (.inr (.inr (.inr (.inl ⟨rfl, rfl, by cases t <;> simp [Instr.imm]⟩))))
  | cellGet => exact .inr (.inr (.inr (.inr (.inr (.inl ⟨rfl, rfl, rfl⟩)))))
  | cellAdd y | cellSub y | cellMul y | cellDiv y | cellMod y | cellShl y | cellShr y | cellAnd y
  | cellOr y | cellXor y =>
    exact .inr (.inr (.inr (.inr (.inr (.inr
      ⟨rfl, by simp [Instr.fn], by simp [Instr.fn], of_decide_eq_true h⟩)))))

/-- The unit and the function are assigned, and the operand is legal for what they select. -/
def SelectsLegal (n : CellN) (u f : Nat) (imm : Bitmask) : Prop :=
  ∃ i, decodeFields u f imm = some i ∧ i.wellFormed n = true

theorem SelectsLegal.decode {n : CellN} {w : CommandWord} {u : BitVec 4} (unit : w.unit = u)
    (h : SelectsLegal n u.toNat w.fn.toNat w.imm) : ∃ i, decode n w = some i := by
  subst unit
  obtain ⟨i, hi, legal⟩ := h
  exact ⟨i, decode_of_decodeFields hi legal⟩

theorem selectsLegal_norm (n : CellN) (imm : Bitmask) : SelectsLegal n 0x0 0x0 imm :=
  ⟨.norm imm, rfl, rfl⟩

theorem selectsLegal_snap (n : CellN) (imm : Bitmask) {f : Nat} (hf : f ≤ 0xB) :
    SelectsLegal n 0x1 f imm := by
  interval_cases f <;> exact ⟨_, rfl, rfl⟩

theorem selectsLegal_snapr (n : CellN) (imm : Bitmask) {f : Nat} (hf : f ≤ 0xB) :
    SelectsLegal n 0x2 f imm := by
  interval_cases f <;> exact ⟨_, rfl, rfl⟩

theorem selectsLegal_trk (n : CellN) (imm : Bitmask) {f : Nat} (hf : f ≤ 0x4) :
    SelectsLegal n 0x3 f imm := by
  interval_cases f <;> exact ⟨_, rfl, rfl⟩

theorem selectsLegal_trkAxchg (n : CellN) : SelectsLegal n 0x3 0x5 0 := ⟨.trkAxchg, rfl, rfl⟩

theorem selectsLegal_cellSetb (n : CellN) {imm : Bitmask} (h : imm.toNat ≤ 1) :
    SelectsLegal n 0x4 0x0 imm :=
  ⟨.cellSetb (imm.getLsbD 0), if_pos h, rfl⟩

theorem selectsLegal_cellGet (n : CellN) : SelectsLegal n 0x4 0x1 0 := ⟨.cellGet, rfl, rfl⟩

theorem selectsLegal_cellArith {n : CellN} {imm : Bitmask} {f : Nat} (low : 0x2 ≤ f)
    (high : f ≤ 0xB) (fits : imm.toNat < 2 ^ n.width) : SelectsLegal n 0x4 f imm := by
  interval_cases f <;> exact ⟨_, rfl, decide_eq_true fits⟩

/-- A legal word decodes, by the seven clauses of `legalWord`. -/
theorem decode_of_legalWord {n : CellN} {w : CommandWord} (h : Machine.legalWord n w) :
    ∃ i, decode n w = some i := by
  obtain ⟨unit, fn⟩ | ⟨unit | unit, fn⟩ | ⟨unit, fn⟩ | ⟨unit, fn, operand⟩ | ⟨unit, fn, operand⟩ |
    ⟨unit, fn, operand⟩ | ⟨unit, low, high, fits⟩ := h
  · exact SelectsLegal.decode unit (by rw [fn]; exact selectsLegal_norm n w.imm)
  · exact (selectsLegal_snap n w.imm fn).decode unit
  · exact (selectsLegal_snapr n w.imm fn).decode unit
  · exact (selectsLegal_trk n w.imm fn).decode unit
  · exact SelectsLegal.decode unit (by rw [fn, operand]; exact selectsLegal_trkAxchg n)
  · exact SelectsLegal.decode unit (by rw [fn]; exact selectsLegal_cellSetb n operand)
  · exact SelectsLegal.decode unit (by rw [fn, operand]; exact selectsLegal_cellGet n)
  · exact (selectsLegal_cellArith low high fits).decode unit

/-- A word that decodes is the word of a well-formed command, so it is legal. -/
theorem decode_eq_none_of_not_legalWord {n : CellN} {w : CommandWord}
    (h : ¬ Machine.legalWord n w) : decode n w = none := by
  refine Option.eq_none_iff_forall_ne_some.mpr fun i hi => h ?_
  obtain ⟨rfl, legal⟩ := decode_eq_some_iff.mp hi
  exact legalWord_encode legal

namespace Machine

/-! ### A word presented -/

theorem present_halted {s : State} (w : CommandWord) (h : s.fault ≠ .noFault) :
    present w s = .next (ignore s) := if_neg h

theorem present_illegal {s : State} {w : CommandWord} (h : s.fault = .noFault)
    (hw : decode s.cellN w = none) : present w s = .next (raise .illegalCommand w s) := by
  simp [present, h, hw]

theorem present_legal {s : State} {w : CommandWord} {i : Instr} (h : s.fault = .noFault)
    (hw : decode s.cellN w = some i) : present w s = exec i s := by
  simp [present, h, hw]

theorem step_idle {s : State} (h : s.host = []) : step s = .next s := by
  simp [step, takeHostAction, h]

theorem step_command {s : State} {w : CommandWord} {rest : List HostAction}
    (h : s.host = .command w :: rest) : step s = present w { s with host := rest } := by
  simp [step, takeHostAction, h]

/-- Settles O7: from the command to its word and back. -/
theorem decodeInvertsEncode : Obligations.DecodeInvertsEncode :=
  fun _ _ legal => decode_eq_some_iff.mpr ⟨rfl, legal⟩

/-- Settles O8: from the word to the command and back. -/
theorem encodeInvertsDecode : Obligations.EncodeInvertsDecode := by
  intro n w i h
  obtain ⟨word, legal⟩ := decode_eq_some_iff.mp h
  exact ⟨legal, word⟩

/-- Settles O5: each clause of `legalWord` selects a command, the word of every command meets one of
them, and a word that selects nothing is refused by the step. -/
theorem decodeSelectsExactlyTheLegalWords : Obligations.DecodeSelectsExactlyTheLegalWords := by
  refine fun n w => ⟨decode_of_legalWord, fun illegal => ?_⟩
  have hw := decode_eq_none_of_not_legalWord illegal
  refine ⟨hw, ?_⟩
  rintro s rest rfl running host
  exact (step_command host).trans (present_illegal running hw)

/-- Settles O6: a word that decodes is the word of its command, which matches its row; and every row
selects its own command. -/
theorem decodeAgreesWithOpcodeTable : Obligations.DecodeAgreesWithOpcodeTable := by
  refine fun n w => ⟨fun i h => ?_, fun r hr => decode_of_matches_row hr⟩
  obtain ⟨rfl, -⟩ := decode_eq_some_iff.mp h
  exact Laws.EncodesToItsRow.statement i

/-- Settles O4: the number and the fields of a word built from its fields, and the way back. -/
theorem wordIsUnitFnImm : Obligations.WordIsUnitFnImm :=
  ⟨fun u f imm => ⟨toNat_ofFields u f imm, unit_ofFields u f imm, fn_ofFields u f imm,
    imm_ofFields u f imm⟩, ofFields_fields⟩

/-- Settles O11: the step takes the word off the port, and `present` has the three ends of
30_encoding.md R48. -/
theorem stepRunsTheDecodedCommand : Obligations.StepRunsTheDecodedCommand := by
  refine ⟨fun s w rest host => ?_, fun s => step_idle⟩
  have taken := step_command host
  exact ⟨fun halted => taken.trans (present_halted w halted),
    fun running hw => taken.trans (present_illegal running hw),
    fun i running hw => taken.trans (present_legal running hw)⟩

/-- Subtracting from 0xFFFF complements, and `norm` complements back (40_rawinput.md R61). -/
theorem normRaw_sub (v : Bitmask) : normRaw (0xFFFF - v) = v := by
  have complement : 0xFFFF - v = ~~~v := BitVec.allOnes_sub_eq_not v
  rw [normRaw, complement, BitVec.not_not]

/-- The word of TRK.UPDATE is the row's match value plus the operand (30_encoding.md R45). -/
theorem encode_trkUpdate (raw : Bitmask) : encode (.trkUpdate raw) = wordOf 0x300000 raw :=
  (base_add_operand 0x3 0x0 raw).symm

/-- Settles O56: the expansions are those of the table, four of them to one fixed word each. -/
theorem pseudoInstructionsExpand : Obligations.PseudoInstructionsExpand :=
  ⟨fun v => ⟨rfl, encode_trkUpdate _, normRaw_sub v⟩, rfl, rfl, rfl, rfl, rfl, rfl, rfl, rfl⟩

end Machine
end Sys2Proof
end

section
/-!
PROOFS. The raw input (40_rawinput.md R60, R61): NORM, and the forms of the normalization.
-/

namespace Sys2Proof.Machine

/-- A command legal for every CELL_N follows its rule once its effect in a running block is known: its
word decodes to it, and a halted block ignores it. -/
theorem commandRule_of_running {w : CommandWord} {i : Instr} {effect : State → State}
    (word : encode i = w) (legal : ∀ n, i.wellFormed n = true)
    (running : ∀ s : State, s.fault = .noFault → exec i s = .next (effect s)) :
    CommandRule w i effect :=
  ⟨fun n => decode_eq_some_iff.mpr ⟨word, legal n⟩, running, fun _ halted => exec_halted i halted⟩

/-- The word of NORM is the row's match value plus the operand (30_encoding.md R45). -/
theorem encode_norm (raw : Bitmask) : encode (.norm raw) = wordOf 0x000000 raw :=
  (base_add_operand 0x0 0x0 raw).symm

theorem exec_norm_running {s : State} (raw : Bitmask) (hs : s.fault = .noFault) :
    exec (.norm raw) s = .next (finish (normRaw raw) s) :=
  congrArg Host.Outcome.next (whenRunning_running _ hs)

/-- The normalization as a subtraction (40_rawinput.md R61). -/
theorem sub_eq_normRaw (raw : Bitmask) : 0xFFFF - raw = normRaw raw :=
  BitVec.allOnes_sub_eq_not raw

/-- The normalization as an exclusive or (40_rawinput.md R61). -/
theorem xor_eq_normRaw (raw : Bitmask) : raw ^^^ 0xFFFF = normRaw raw :=
  BitVec.xor_allOnes

/-- Settles O17: a running block returns the normalized form, which the subtraction, the complement
and the exclusive or each give. -/
theorem normReturnsComplement : Obligations.NormReturnsComplement := by
  refine fun raw => ⟨?_, sub_eq_normRaw raw, (sub_eq_normRaw raw).trans (xor_eq_normRaw raw).symm⟩
  rw [sub_eq_normRaw]
  exact commandRule_of_running (encode_norm raw) (fun _ => rfl) fun _ hs => exec_norm_running raw hs

end Sys2Proof.Machine
end

section
/-!
PROOFS. The snapshot units (41_snapshot.md R65 to R92): the button tests and the axes of a bitmask,
and of a raw value through its normalization.
-/

namespace Sys2Proof.Machine

/-! ### A line's bit, tested by its flag -/

/-- A line's bit is set when the AND with the line's flag is not 0 (41_snapshot.md R66). -/
theorem getLsbD_index (b : Bitmask) (ln : Line) :
    b.getLsbD ln.index = decide (b &&& ln.flag ≠ 0) := by
  have masked : b &&& ln.flag = if b.getLsbD ln.index then ln.flag else 0 := BitVec.and_twoPow b _
  have flag_ne : ln.flag ≠ 0 := by cases ln <;> decide
  rw [masked]
  cases b.getLsbD ln.index
  · simp
  · simpa using flag_ne

/-- A line's bit is set in the normalized value when the raw bit is 0 (41_snapshot.md R79). -/
theorem getLsbD_normRaw_index (raw : Bitmask) (ln : Line) :
    (normRaw raw).getLsbD ln.index = decide (raw &&& ln.flag = 0) := by
  have inRange : ln.index < 16 := by cases ln <;> decide
  rw [normRaw, BitVec.getLsbD_not, getLsbD_index]
  simp [inRange]

theorem boolResult_decide (p : Prop) [Decidable p] :
    boolResult (decide p) = if p then 0x0001 else 0x0000 := by
  simp only [boolResult, decide_eq_true_eq]

theorem btn_index (b : Bitmask) (ln : Line) :
    btn b ln.index = if b &&& ln.flag ≠ 0 then 0x0001 else 0x0000 := by
  rw [btn, getLsbD_index, boolResult_decide]

theorem btn_normRaw_index (raw : Bitmask) (ln : Line) :
    btn (normRaw raw) ln.index = if raw &&& ln.flag = 0 then 0x0001 else 0x0000 := by
  rw [btn, getLsbD_normRaw_index, boolResult_decide]

/-- The two terms of an axis, added, give its truth table (41_snapshot.md R92). -/
theorem axisResult_axis (b : Bitmask) (p n : Nat) :
    axisResult (axis b p n) = axisTable (b.getLsbD p) (b.getLsbD n) := by
  rw [axis]
  cases b.getLsbD p <;> cases b.getLsbD n <;> rfl

theorem axisResult_axis_index (b : Bitmask) (p n : Line) :
    axisResult (axis b p.index n.index) =
      axisTable (decide (b &&& p.flag ≠ 0)) (decide (b &&& n.flag ≠ 0)) := by
  rw [axisResult_axis, getLsbD_index, getLsbD_index]

theorem axisResult_axis_normRaw_index (raw : Bitmask) (p n : Line) :
    axisResult (axis (normRaw raw) p.index n.index) =
      axisTable (decide (raw &&& p.flag = 0)) (decide (raw &&& n.flag = 0)) := by
  rw [axisResult_axis, getLsbD_normRaw_index, getLsbD_normRaw_index]

/-! ### The commands of the two units -/

/-- The command `SNAP.X` of line X, whose function code is the line's bit position
(41_snapshot.md R67 to R76). -/
def snapTest (b : Bitmask) : Line → Instr
  | .a => .snapA b
  | .b => .snapB b
  | .select => .snapSelect b
  | .start => .snapStart b
  | .right => .snapRight b
  | .left => .snapLeft b
  | .up => .snapUp b
  | .down => .snapDown b
  | .r => .snapR b
  | .l => .snapL b

/-- The command `SNAPR.X` of line X (41_snapshot.md R80 to R89). -/
def snaprTest (raw : Bitmask) : Line → Instr
  | .a => .snaprA raw
  | .b => .snaprB raw
  | .select => .snaprSelect raw
  | .start => .snaprStart raw
  | .right => .snaprRight raw
  | .left => .snaprLeft raw
  | .up => .snaprUp raw
  | .down => .snaprDown raw
  | .r => .snaprR raw
  | .l => .snaprL raw

theorem exec_snapTest (b : Bitmask) (ln : Line) (s : State) :
    exec (snapTest b ln) s = .next (testLine ln b s) := by
  cases ln <;> rfl

theorem exec_snaprTest (raw : Bitmask) (ln : Line) (s : State) :
    exec (snaprTest raw ln) s = .next (testLine ln (normRaw raw) s) := by
  cases ln <;> rfl

theorem encode_snapTest (b : Bitmask) (ln : Line) :
    encode (snapTest b ln) = CommandWord.ofFields 0x1 (.ofNat 4 ln.index) b := by
  cases ln <;> rfl

theorem encode_snaprTest (raw : Bitmask) (ln : Line) :
    encode (snaprTest raw ln) = CommandWord.ofFields 0x2 (.ofNat 4 ln.index) raw := by
  cases ln <;> rfl

/-- A command with a fixed operand that only returns a result follows the rule of that result
(41_snapshot.md R65). -/
theorem commandRule_of_result {u f : BitVec 4} {imm r : Bitmask} {i : Instr}
    (word : encode i = CommandWord.ofFields u f imm) (legal : ∀ n, i.wellFormed n = true)
    (result : ∀ s, exec i s = .next (whenRunning (finish r) s)) :
    CommandRule (wordOf (CommandWord.ofFields u f 0) imm) i (fun s => { s with res := r }) :=
  commandRule_of_running (word.trans (base_add_operand u f imm).symm) legal
    fun s running => (result s).trans (congrArg _ (whenRunning_running _ running))

/-- The rule of `SNAP.X`, by the flag of line X. -/
theorem commandRule_snapTest (b : Bitmask) (ln : Line) :
    CommandRule (wordOf (CommandWord.ofFields 0x1 (.ofNat 4 ln.index) 0) b) (snapTest b ln)
      (fun s => { s with res := if b &&& ln.flag ≠ 0 then 0x0001 else 0x0000 }) :=
  commandRule_of_result (encode_snapTest b ln) (fun _ => by cases ln <;> rfl)
    fun s => btn_index b ln ▸ exec_snapTest b ln s

/-- The rule of `SNAPR.X`, by the flag of line X in the raw operand. -/
theorem commandRule_snaprTest (raw : Bitmask) (ln : Line) :
    CommandRule (wordOf (CommandWord.ofFields 0x2 (.ofNat 4 ln.index) 0) raw) (snaprTest raw ln)
      (fun s => { s with res := if raw &&& ln.flag = 0 then 0x0001 else 0x0000 }) :=
  commandRule_of_result (encode_snaprTest raw ln) (fun _ => by cases ln <;> rfl)
    fun s => btn_normRaw_index raw ln ▸ exec_snaprTest raw ln s

/-- A command of the two units returns one result, whatever the state, and is ignored by a halted
block (41_snapshot.md R65). -/
theorem exec_of_snapUnits (i : Instr) (unit : i.unit = 0x1 ∨ i.unit = 0x2) :
    ∃ r : Bitmask, ∀ s : State, exec i s = .next (whenRunning (finish r) s) := by
  cases i with
  | norm | trkUpdate | trkPressed | trkReleased | trkDown | trkUp | trkAxchg | cellSetb | cellGet
  | cellAdd | cellSub | cellMul | cellDiv | cellMod | cellShl | cellShr | cellAnd | cellOr
  | cellXor => simp [Instr.unit] at unit
  | _ => exact ⟨_, fun _ => rfl⟩

/-- Settles O19: each command is the test of its line, whose flag is the weight. -/
theorem snapButtonsTestOneBit : Obligations.SnapButtonsTestOneBit := fun b =>
  have rule := commandRule_snapTest b
  ⟨rule .a, rule .b, rule .select, rule .start, rule .right, rule .left, rule .up, rule .down,
    rule .r, rule .l⟩

/-- Settles O20: each axis is that of its two lines, by the truth table. -/
theorem snapAxesCancel : Obligations.SnapAxesCancel :=
  ⟨fun b =>
    ⟨commandRule_of_result (u := 0x1) (f := 0xA) rfl (fun _ => rfl)
      fun _ => axisResult_axis_index b .right .left ▸ rfl,
    commandRule_of_result (u := 0x1) (f := 0xB) rfl (fun _ => rfl)
      fun _ => axisResult_axis_index b .up .down ▸ rfl⟩,
  axisResult_axis⟩

/-- Settles O21: each command is the test of its line in the normalized operand. -/
theorem snaprButtonsTestRawBitClear : Obligations.SnaprButtonsTestRawBitClear := fun raw =>
  have rule := commandRule_snaprTest raw
  ⟨rule .a, rule .b, rule .select, rule .start, rule .right, rule .left, rule .up, rule .down,
    rule .r, rule .l⟩

/-- Settles O22: each axis is that of its two lines in the normalized operand. -/
theorem snaprAxesOfRawValue : Obligations.SnaprAxesOfRawValue := fun raw =>
  ⟨commandRule_of_result (u := 0x2) (f := 0xA) rfl (fun _ => rfl)
    fun _ => axisResult_axis_normRaw_index raw .right .left ▸ rfl,
  commandRule_of_result (u := 0x2) (f := 0xB) rfl (fun _ => rfl)
    fun _ => axisResult_axis_normRaw_index raw .up .down ▸ rfl⟩

/-- Settles O23: the subtraction is the normalization that each SNAPR command does. -/
theorem snaprIsSnapOfComplement : Obligations.SnaprIsSnapOfComplement := by
  intro raw s
  have same (ln : Line) : exec (snaprTest raw ln) s = exec (snapTest (normRaw raw) ln) s :=
    (exec_snaprTest raw ln s).trans (exec_snapTest (normRaw raw) ln s).symm
  rw [sub_eq_normRaw]
  exact ⟨same .a, same .b, same .select, same .start, same .right, same .left, same .up,
    same .down, same .r, same .l, rfl, rfl⟩

/-- Settles O24: the one result of R65, on a block whose halt check has passed. -/
theorem snapUnitsArePure : Obligations.SnapUnitsArePure := by
  intro i unit
  obtain ⟨r, result⟩ := exec_of_snapUnits i unit
  exact ⟨r, fun s running => (result s).trans (congrArg _ (whenRunning_running _ running))⟩

end Sys2Proof.Machine
end

section
/-!
PROOFS. The tracker (42_eventtracker.md R100 to R106): the update, the key queries bit by bit, the
axis-change query, and which commands write the tracker.
-/

namespace Sys2Proof.Machine

/-! ### The update -/

/-- The update as R101 words it: CURRENT is written only when some line differs. -/
theorem updateTracker_eq_ite (n : Bitmask) (s : State) :
    updateTracker n s =
      { s with
        current := if s.current ^^^ n ≠ 0x0000 then n else s.current
        diff := s.current ^^^ n
        res := 0x0000 } := by
  rw [updateTracker_eq]
  split_ifs with differs
  · rfl
  · rw [BitVec.xor_eq_zero_iff.mp (not_not.mp differs)]

/-- Settles O26: the update of R101, on the normalized operand. -/
theorem updateFoldsOneRawSample : Obligations.UpdateFoldsOneRawSample := by
  intro raw
  rw [sub_eq_normRaw]
  exact commandRule_of_running (encode_trkUpdate raw) (fun _ => rfl) fun s running =>
    (exec_trkUpdate_running raw running).trans (congrArg _ (updateTracker_eq_ite _ s))

/-! ### The key queries, bit by bit -/

theorem allSet_iff (x k : Bitmask) :
    allSet x k = true ↔ ∀ i : Fin 16, k.getLsbD i = true → x.getLsbD i = true := by
  rw [allSet, beq_iff_eq]
  constructor
  · intro masked i hk
    rw [← masked, BitVec.getLsbD_and, Bool.and_eq_true] at hk
    exact hk.1
  · intro all
    refine BitVec.eq_of_getLsbD_eq fun i hi => ?_
    rw [BitVec.getLsbD_and]
    exact Bool.and_eq_right_iff_imp.mpr (all ⟨i, hi⟩)

theorem noneSet_iff (x k : Bitmask) :
    noneSet x k = true ↔ ∀ i : Fin 16, k.getLsbD i = true → x.getLsbD i = false := by
  rw [noneSet, beq_iff_eq]
  constructor
  · intro masked i hk
    rw [← Bool.and_true (x.getLsbD i), ← hk, ← BitVec.getLsbD_and, masked]
    exact BitVec.getLsbD_zero
  · intro clear
    refine BitVec.eq_of_getLsbD_eq fun i hi => ?_
    rw [BitVec.getLsbD_and]
    cases hk : k.getLsbD i
    · simp
    · simp [clear ⟨i, hi⟩ hk]

theorem allSet_and_allSet_iff (x y k : Bitmask) :
    (allSet x k && allSet y k) = true ↔
      ∀ i : Fin 16, k.getLsbD i = true → x.getLsbD i = true ∧ y.getLsbD i = true := by
  rw [Bool.and_eq_true, allSet_iff, allSet_iff]
  simp only [imp_and, forall_and]

theorem allSet_and_noneSet_iff (x y k : Bitmask) :
    (allSet x k && noneSet y k) = true ↔
      ∀ i : Fin 16, k.getLsbD i = true → x.getLsbD i = true ∧ y.getLsbD i = false := by
  rw [Bool.and_eq_true, allSet_iff, noneSet_iff]
  simp only [imp_and, forall_and]

theorem boolResult_of_iff {c : Bool} {p : Prop} [Decidable p] (h : c = true ↔ p) :
    boolResult c = if p then 0x0001 else 0x0000 := if_congr h rfl rfl

/-- A command that answers a tracker query follows the rule of the property its answer decides
(42_eventtracker.md R100). -/
theorem commandRule_of_answerQuery {f : BitVec 4} {k : Bitmask} {i : Instr}
    {answer : Bitmask → Bitmask → Bool} {p : State → Prop} [DecidablePred p]
    (word : encode i = CommandWord.ofFields 0x3 f k) (legal : ∀ n, i.wellFormed n = true)
    (query : ∀ s, exec i s = .next (answerQuery answer s))
    (decides : ∀ s, answer s.current s.diff = true ↔ p s) :
    CommandRule (wordOf (CommandWord.ofFields 0x3 f 0) k) i
      (fun s => { s with res := if p s then 0x0001 else 0x0000 }) :=
  commandRule_of_running (word.trans (base_add_operand 0x3 f k).symm) legal fun s running => by
    rw [query, answerQuery, whenRunning_running _ running, boolResult_of_iff (decides s)]
    rfl

/-- Settles O28: the two level tests read CURRENT alone. -/
theorem levelQueriesTestCurrent : Obligations.LevelQueriesTestCurrent := fun k =>
  ⟨commandRule_of_answerQuery (f := 0x1) rfl (fun _ => rfl) (fun _ => rfl)
    fun s => allSet_iff s.current k,
  commandRule_of_answerQuery (f := 0x2) rfl (fun _ => rfl) (fun _ => rfl)
    fun s => noneSet_iff s.current k⟩

/-- Settles O29: the two edge tests read DIFF as well, and write neither. -/
theorem edgeQueriesTestDiffAndCurrent : Obligations.EdgeQueriesTestDiffAndCurrent := fun k =>
  ⟨commandRule_of_answerQuery (f := 0x3) rfl (fun _ => rfl) (fun _ => rfl)
    fun s => allSet_and_allSet_iff s.diff s.current k,
  commandRule_of_answerQuery (f := 0x4) rfl (fun _ => rfl) (fun _ => rfl)
    fun s => allSet_and_noneSet_iff s.diff s.current k⟩

/-! ### The axis-change query -/

theorem getLsbD_dpadMask :
    ∀ i : Fin 16, dpadMask.getLsbD i = decide (4 ≤ i.val ∧ i.val ≤ 7) := by decide

/-- A D-pad line is in the mask when one of the bits 4 to 7 is set (42_eventtracker.md R106). -/
theorem and_dpadMask_ne_zero_iff (d : Bitmask) :
    d &&& dpadMask ≠ 0x0000 ↔ ∃ i : Fin 16, 4 ≤ i.val ∧ i.val ≤ 7 ∧ d.getLsbD i = true := by
  have clear := noneSet_iff d dpadMask
  rw [noneSet, beq_iff_eq] at clear
  rw [ne_eq, clear]
  simp only [getLsbD_dpadMask, decide_eq_true_eq, not_forall, Bool.not_eq_false, exists_prop,
    and_assoc]

/-- What is latched are the bits 7 to 4. -/
theorem setWidth_shiftRight_four (cur : Bitmask) :
    (cur >>> 4).setWidth 4 = cur.extractLsb' 4 4 :=
  BitVec.eq_of_toNat_eq rfl

theorem latchAxis_eq_ite (s : State) :
    latchAxis s =
      if ∃ i : Fin 16, 4 ≤ i.val ∧ i.val ≤ 7 ∧ s.diff.getLsbD i = true then
        { s with axmask := some (s.current.extractLsb' 4 4), res := 0x0001 }
      else { s with res := 0x0000 } := by
  have changed := and_dpadMask_ne_zero_iff s.diff
  obtain ⟨hd, e⟩ | ⟨hd, e⟩ := latchAxis_cases s
  · rw [e, if_neg fun h => changed.mpr h hd]
  · rw [e, if_pos (changed.mp hd), setWidth_shiftRight_four]

theorem exec_trkAxchg_running {s : State} (hs : s.fault = .noFault) :
    exec .trkAxchg s = .next (latchAxis s) :=
  congrArg Host.Outcome.next (whenRunning_running _ hs)

/-- TRK.AXCHG has format Z: no operand but 0 is legal (30_encoding.md R42). -/
theorem decode_trkAxchg_operand (n : CellN) {imm : Bitmask} (h : imm ≠ 0) :
    decode n (wordOf 0x350000 imm) = none := by
  have word : wordOf 0x350000 imm = CommandWord.ofFields 0x3 0x5 imm := base_add_operand 0x3 0x5 imm
  have operand : decodeFields 0x3 0x5 imm = none := if_neg h
  rw [word, decode_ofFields]
  exact congrArg (Option.filter _) operand

/-- Settles O31: the two ends of the query by the bits of DIFF, and the operand of format Z. -/
theorem axisChangeLatchesTheLevel : Obligations.AxisChangeLatchesTheLevel :=
  ⟨commandRule_of_running rfl (fun _ => rfl) fun s running =>
    (exec_trkAxchg_running running).trans (congrArg _ (latchAxis_eq_ite s)),
  fun n _ => decode_trkAxchg_operand n⟩

/-! ### The writers of the tracker -/

/-- The six commands of the unit (42_eventtracker.md R100). -/
theorem instr_cases_of_trk_unit {i : Instr} (unit : i.unit = 0x3) :
    (∃ raw, i = .trkUpdate raw) ∨
    (∃ k, i = .trkPressed k ∨ i = .trkReleased k ∨ i = .trkDown k ∨ i = .trkUp k) ∨
    i = .trkAxchg := by
  cases i with
  | trkUpdate raw => exact .inl ⟨raw, rfl⟩
  | trkPressed k | trkReleased k | trkDown k | trkUp k => exact .inr (.inl ⟨k, by simp⟩)
  | trkAxchg => exact .inr (.inr rfl)
  | _ => simp [Instr.unit] at unit

theorem answerQuery_frame (answer : Bitmask → Bitmask → Bool) (s : State) :
    ∃ r, answerQuery answer s = { s with res := r } := by
  obtain ⟨-, e⟩ | ⟨-, e⟩ := whenRunning_cases (finish (boolResult (answer s.current s.diff))) s
  · exact ⟨_, e⟩
  · exact ⟨_, e⟩

theorem exec_keyQuery_frame {k : Bitmask} {i : Instr} (s : State)
    (hi : i = .trkPressed k ∨ i = .trkReleased k ∨ i = .trkDown k ∨ i = .trkUp k) :
    ∃ r, exec i s = .next { s with res := r } := by
  obtain ⟨answer, query⟩ : ∃ answer, exec i s = .next (answerQuery answer s) := by
    obtain rfl | rfl | rfl | rfl := hi <;> exact ⟨_, rfl⟩
  obtain ⟨r, e⟩ := answerQuery_frame answer s
  exact ⟨r, query.trans (congrArg _ e)⟩

theorem exec_trkAxchg_frame (s : State) :
    ∃ m r, exec .trkAxchg s = .next { s with axmask := m, res := r } := by
  by_cases hs : s.fault = .noFault
  · rw [exec_trkAxchg_running hs]
    obtain ⟨-, e⟩ | ⟨-, e⟩ := latchAxis_cases s
    · exact ⟨s.axmask, _, congrArg _ e⟩
    · exact ⟨_, _, congrArg _ e⟩
  · exact ⟨s.axmask, _, exec_halted .trkAxchg hs⟩

theorem exec_trkUpdate_frame (raw : Bitmask) (s : State) :
    ∃ c d r, exec (.trkUpdate raw) s = .next { s with current := c, diff := d, res := r } := by
  by_cases hs : s.fault = .noFault
  · exact ⟨_, _, _, (exec_trkUpdate_running raw hs).trans (congrArg _ (updateTracker_eq _ s))⟩
  · exact ⟨s.current, s.diff, _, exec_halted (.trkUpdate raw) hs⟩

/-- Only a TRK command can write CURRENT or DIFF. -/
theorem ExecEffect.tracker_eq {i : Instr} {s t : State} (h : ExecEffect i s t)
    (unit : i.unit ≠ 0x3) : t.current = s.current ∧ t.diff = s.diff := by
  cases h with
  | result | write | fault => exact ⟨rfl, rfl⟩
  | track _ _ _ _ u => exact absurd u unit

/-- Of the TRK commands only TRK.UPDATE does write them (42_eventtracker.md R100). -/
theorem trkUpdate_of_tracker_changed {i : Instr} {s t : State} (h : exec i s = .next t)
    (changed : t.current ≠ s.current ∨ t.diff ≠ s.diff) : ∃ raw, i = .trkUpdate raw := by
  by_contra other
  suffices kept : t.current = s.current ∧ t.diff = s.diff from
    changed.elim (absurd kept.1) (absurd kept.2)
  by_cases unit : i.unit = 0x3
  · obtain update | ⟨k, query⟩ | rfl := instr_cases_of_trk_unit unit
    · exact absurd update other
    · obtain ⟨r, e⟩ := exec_keyQuery_frame s query
      obtain rfl := Host.Outcome.next.inj (e.symm.trans h)
      exact ⟨rfl, rfl⟩
    · obtain ⟨m, r, e⟩ := exec_trkAxchg_frame s
      obtain rfl := Host.Outcome.next.inj (e.symm.trans h)
      exact ⟨rfl, rfl⟩
  · exact (ExecEffect.of_exec h).tracker_eq unit

/-- Settles O32: the reset values, the one writer, and the frames of the six commands. -/
theorem trackerWriters : Obligations.TrackerWriters :=
  ⟨fun n => ⟨resetFor_current n, resetFor_diff n⟩,
  fun _ _ _ => trkUpdate_of_tracker_changed,
  fun _ _ s => exec_keyQuery_frame s,
  exec_trkAxchg_frame,
  exec_trkUpdate_frame⟩

end Sys2Proof.Machine
end

section
/-!
PROOFS. The packed bit cell (43_packedbitcell.md R122 to R136): the words of the CELL commands, what
each writes into the cell, and the cell that is only ever written by CELL.SETB.
-/

namespace Sys2Proof

/-- The word of a command decodes to it exactly when the command is well formed. -/
theorem decode_encode (n : CellN) (i : Instr) :
    decode n (encode i) = if i.wellFormed n then some i else none := by
  rw [decode, unit_encode, fn_encode, imm_encode, decodeFields_of_instr, Option.filter_some]

/-- An operand that is illegal for the function, whatever CELL_N is. -/
theorem decode_wordOf_eq_none {u f : BitVec 4} {imm : Bitmask} (n : CellN)
    (h : decodeFields u.toNat f.toNat imm = none) :
    decode n (Machine.wordOf (CommandWord.ofFields u f 0) imm) = none := by
  rw [Machine.wordOf, base_add_operand, decode_ofFields, h, Option.filter_none]

/-- CELL has function codes up to 0xB (30_encoding.md R45). -/
theorem fn_le_of_cell_unit {i : Instr} (unit : i.unit = 0x4) : i.fn ≤ 0xB := by
  cases i with
  | cellSetb | cellGet | cellAdd | cellSub | cellMul | cellDiv | cellMod | cellShl | cellShr
  | cellAnd | cellOr | cellXor => simp [Instr.fn]
  | _ => simp [Instr.unit] at unit

namespace Machine

/-! ### Truncated results -/

theorem truncW_natCast (n : CellN) (k : Nat) :
    truncW n k = BitVec.ofNat 16 (k % 2 ^ n.width) :=
  congrArg (BitVec.ofNat 16) (Int.toNat_natCast (k % 2 ^ n.width))

/-- A result that fits the cell is written as it is. -/
theorem truncW_natCast_of_lt {n : CellN} {k : Nat} (fits : k < 2 ^ n.width) :
    truncW n k = BitVec.ofNat 16 k := by
  rw [truncW_natCast, Nat.mod_eq_of_lt fits]

theorem truncW_toNat {n : CellN} {x : BitVec 16} (fits : x.toNat < 2 ^ n.width) :
    truncW n x.toNat = x := by
  rw [truncW_natCast_of_lt fits, BitVec.ofNat_toNat, BitVec.setWidth_eq]

/-- A difference is truncated to its non-negative residue (43_packedbitcell.md R126). -/
theorem truncW_natCast_sub {n : CellN} (v : Nat) {y : Nat} (fits : y < 2 ^ n.width) :
    truncW n (v - y : Int) = BitVec.ofNat 16 ((v + 2 ^ n.width - y) % 2 ^ n.width) := by
  have lifted : ((v + 2 ^ n.width - y : Nat) : Int) = v - y + 2 ^ n.width := by
    push_cast [Nat.le_add_left_of_le fits.le]
    ring
  rw [← truncW_natCast, lifted, truncW, truncW, Int.add_emod_right]

/-- A left shift by the width or more shifts every bit out (43_packedbitcell.md R130). -/
theorem truncW_shiftLeft (n : CellN) (v y : Nat) :
    truncW n (v * 2 ^ y : Nat) =
      if n.width ≤ y then 0 else BitVec.ofNat 16 ((v * 2 ^ y) % 2 ^ n.width) := by
  rw [truncW_natCast]
  split_ifs with wide
  · have out : 2 ^ n.width ∣ v * 2 ^ y := Dvd.dvd.mul_left (Nat.pow_dvd_pow 2 wide) v
    exact congrArg (BitVec.ofNat 16) (Nat.mod_eq_zero_of_dvd out)
  · rfl

/-- A right shift by the width or more leaves nothing of a value that fits
(43_packedbitcell.md R131). -/
theorem truncW_shiftRight {n : CellN} {v : Nat} (y : Nat) (fits : v < 2 ^ n.width) :
    truncW n (v / 2 ^ y : Nat) =
      if n.width ≤ y then 0 else BitVec.ofNat 16 (v / 2 ^ y) := by
  rw [truncW_natCast_of_lt ((Nat.div_le_self v _).trans_lt fits)]
  split_ifs with wide
  · have out : v < 2 ^ y := fits.trans_le (Nat.pow_le_pow_right (by decide) wide)
    exact congrArg (BitVec.ofNat 16) (Nat.div_eq_of_lt out)
  · rfl

/-! ### CELL.SETB and CELL.GET -/

theorem exec_cellSetb_running {s : State} (t : Bool) (hs : s.fault = .noFault) :
    exec (.cellSetb t) s = .next (finish 0x0000 (writeVal (if t then 1 else 0) s)) :=
  congrArg Host.Outcome.next (whenRunning_running _ hs)

theorem exec_cellGet_running {s : State} (hs : s.fault = .noFault) :
    exec .cellGet s = .next (readCell 0x410000 finish s) :=
  congrArg Host.Outcome.next (whenRunning_running _ hs)

theorem readCell_value {s : State} {v : BitVec 16} (w : CommandWord)
    (use : BitVec 16 → State → State) (hv : s.val = some v) : readCell w use s = use v s := by
  rw [readCell, hv]

theorem readCell_unwritten {s : State} (w : CommandWord) (use : BitVec 16 → State → State)
    (hv : s.val = none) : readCell w use s = raise .cellUnwritten w s := by
  rw [readCell, hv]

/-- Settles O39: one rule for each truth value; format B admits no operand above 1. -/
theorem setbWritesTruthValue : Obligations.SetbWritesTruthValue :=
  ⟨commandRule_of_running rfl (fun _ => rfl) fun _ => exec_cellSetb_running false,
  commandRule_of_running rfl (fun _ => rfl) fun _ => exec_cellSetb_running true,
  fun n _ above => decode_wordOf_eq_none (u := 0x4) (f := 0x0) n (if_neg above.not_ge)⟩

/-- Settles O40: a running block reads the cell, which has a value or has none; format Z admits no
operand but 0. -/
theorem getReturnsWholeCell : Obligations.GetReturnsWholeCell := by
  refine ⟨fun n => decode_eq_some_iff.mpr ⟨rfl, rfl⟩, fun s v hs hv => ?_, fun s hs hv => ?_,
    fun s halted => exec_halted .cellGet halted,
    fun n imm nonzero => decode_wordOf_eq_none (u := 0x4) (f := 0x1) n (if_neg nonzero)⟩
  · rw [exec_cellGet_running hs, readCell_value _ _ hv]
    rfl
  · rw [exec_cellGet_running hs, readCell_unwritten _ _ hv]
    rfl

/-! ### The arithmetic commands -/

/-- A cell operation that writes `trunc_W (g VAL y)` follows the rule of the result that this
truncation is (43_packedbitcell.md R122). -/
theorem cellRule_of_writeArith {f : BitVec 4} {y : Bitmask} {i : Instr} {ok : Prop}
    {result : Nat → BitVec 16 → BitVec 16} {use : BitVec 16 → State → State}
    {g : Nat → Nat → Int}
    (word : encode i = CommandWord.ofFields 0x4 f y)
    (legal : ∀ n, i.wellFormed n = operandFits n y)
    (operation : ∀ s, exec i s = .next (cellOperation (encode i) y use s))
    (writes : ok → ∀ v s, use v s = writeArith g y v s)
    (truncated : ∀ (n : CellN) (v : BitVec 16), v.toNat < 2 ^ n.width → y.toNat < 2 ^ n.width →
      truncW n (g v.toNat y.toNat) = result n.width v) :
    CellRule (wordOf (CommandWord.ofFields 0x4 f 0) y) i y ok result := by
  have word' : wordOf (CommandWord.ofFields 0x4 f 0) y = encode i :=
    (base_add_operand 0x4 f y).trans word.symm
  have decoded (n : CellN) : decode n (wordOf (CommandWord.ofFields 0x4 f 0) y) =
      if operandFits n y then some i else none := by
    rw [word', decode_encode, legal]
  refine ⟨fun n fits => ?_, fun n above => ?_, fun s v hs hv vfits yfits hok => ?_,
    fun s halted => exec_halted i halted⟩
  · exact (decoded n).trans (if_pos (decide_eq_true fits))
  · exact (decoded n).trans (if_neg fun fits => above.not_gt (of_decide_eq_true fits))
  · rw [operation, cellOperation_value _ _ _ hs hv yfits, writes hok, writeArith,
      truncated s.cellN v vfits yfits]
    rfl

/-- A zero divisor in a running block whose cell has a value (60_exceptions.md R156). -/
theorem cellDivide_zero {s : State} {v : BitVec 16} (w : CommandWord) (g : Nat → Nat → Int)
    (hs : s.fault = .noFault) (hv : s.val = some v) :
    cellDivide w 0 g s = raise .cellDivideByZero w s :=
  (cellOperation_value w 0 _ hs hv (Nat.two_pow_pos _)).trans (if_pos rfl)

/-- Settles O41: the three results are truncated, the difference to its non-negative residue. -/
theorem cellAddSubMulWrap : Obligations.CellAddSubMulWrap := fun y =>
  ⟨cellRule_of_writeArith (f := 0x2) rfl (fun _ => rfl) (fun _ => rfl) (fun _ _ _ => rfl)
    fun n v _ _ => truncW_natCast n (v.toNat + y.toNat),
  cellRule_of_writeArith (f := 0x3) rfl (fun _ => rfl) (fun _ => rfl) (fun _ _ _ => rfl)
    fun _ v _ yfits => truncW_natCast_sub v.toNat yfits,
  cellRule_of_writeArith (f := 0x4) rfl (fun _ => rfl) (fun _ => rfl) (fun _ _ _ => rfl)
    fun n v _ _ => truncW_natCast n (v.toNat * y.toNat)⟩

/-- Settles O42: quotient and remainder are at most VAL, so they fit the cell; operand 0 faults. -/
theorem cellDivModFloorOrFault : Obligations.CellDivModFloorOrFault :=
  ⟨fun y =>
    ⟨cellRule_of_writeArith (f := 0x5) rfl (fun _ => rfl) (fun _ => rfl)
      (fun nonzero _ _ => if_neg nonzero)
      fun _ v vfits _ => truncW_natCast_of_lt ((Nat.div_le_self v.toNat y.toNat).trans_lt vfits),
    cellRule_of_writeArith (f := 0x6) rfl (fun _ => rfl) (fun _ => rfl)
      (fun nonzero _ _ => if_neg nonzero)
      fun _ v vfits _ => truncW_natCast_of_lt ((Nat.mod_le v.toNat y.toNat).trans_lt vfits)⟩,
  fun _ _ hs hv => congrArg Host.Outcome.next (cellDivide_zero _ _ hs hv),
  fun _ _ hs hv => congrArg Host.Outcome.next (cellDivide_zero _ _ hs hv)⟩

/-- Settles O43: the shifts as product and quotient by a power of two, truncated. -/
theorem cellShiftsAreLogical : Obligations.CellShiftsAreLogical := fun y =>
  ⟨cellRule_of_writeArith (f := 0x7) rfl (fun _ => rfl) (fun _ => rfl) (fun _ _ _ => rfl)
    fun n v _ _ => truncW_shiftLeft n v.toNat y.toNat,
  cellRule_of_writeArith (f := 0x8) rfl (fun _ => rfl) (fun _ => rfl) (fun _ _ _ => rfl)
    fun _ _ vfits _ => truncW_shiftRight y.toNat vfits⟩

/-- Settles O44: a bitwise operation on two values that fit the cell fits it too. -/
theorem cellBitwiseOperations : Obligations.CellBitwiseOperations := fun y =>
  ⟨cellRule_of_writeArith (f := 0x9) rfl (fun _ => rfl) (fun _ => rfl) (fun _ _ _ => rfl)
    fun _ v _ yfits => truncW_toNat (x := v &&& y) (Nat.and_lt_two_pow v.toNat yfits),
  cellRule_of_writeArith (f := 0xA) rfl (fun _ => rfl) (fun _ => rfl) (fun _ _ _ => rfl)
    fun _ v vfits yfits => truncW_toNat (x := v ||| y) (Nat.or_lt_two_pow vfits yfits),
  cellRule_of_writeArith (f := 0xB) rfl (fun _ => rfl) (fun _ => rfl) (fun _ _ _ => rfl)
    fun _ v vfits yfits => truncW_toNat (x := v ^^^ y) (Nat.xor_lt_two_pow vfits yfits)⟩

/-! ### A cell written only by CELL.SETB -/

theorem cellBoolean_iff (s : State) :
    s.cellBoolean ↔ s.val = none ∨ s.val = some 0 ∨ s.val = some 1 :=
  decide_eq_true_iff

theorem isCellArithWord_encode {i : Instr} (unit : i.unit = 0x4) (fn : 0x2 ≤ i.fn) :
    isCellArithWord (encode i) = true := by
  rw [isCellArithWord, unit_encode, fn_encode]
  exact decide_eq_true ⟨unit, fn, fn_le_of_cell_unit unit⟩

/-- A command that is not a cell arithmetic command leaves VAL alone or writes a truth value
(43_packedbitcell.md R136). -/
theorem exec_val_cases {i : Instr} {s t : State} (h : exec i s = .next t)
    (notArith : isCellArithWord (encode i) = false) :
    t.val = s.val ∨ t.val = some 0 ∨ t.val = some 1 := by
  by_cases hs : s.fault = .noFault
  · cases exec_running i hs with
    | result r _ _ e =>
      obtain rfl := Host.Outcome.next.inj (e.symm.trans h)
      exact .inl rfl
    | update raw _ e =>
      obtain rfl := Host.Outcome.next.inj (e.symm.trans h)
      exact .inl (by rw [updateTracker_eq])
    | axisChange _ e =>
      obtain rfl := Host.Outcome.next.inj (e.symm.trans h)
      obtain ⟨-, l⟩ | ⟨-, l⟩ := latchAxis_cases s <;> exact .inl (by rw [l])
    | setBool b _ e =>
      obtain rfl := Host.Outcome.next.inj (e.symm.trans h)
      cases b
      · exact .inr (.inl rfl)
      · exact .inr (.inr rfl)
    | get _ e =>
      obtain rfl := Host.Outcome.next.inj (e.symm.trans h)
      obtain ⟨-, r⟩ | ⟨v, -, r⟩ := readCell_cases (encode i) finish s <;> rw [r] <;> exact .inl rfl
    | arith _ unit fn => simp [isCellArithWord_encode unit fn] at notArith
    | divide _ unit fn =>
      have low : 0x2 ≤ i.fn := by obtain fn | fn := fn <;> rw [fn] <;> decide
      simp [isCellArithWord_encode unit low] at notArith
  · obtain rfl := Host.Outcome.next.inj ((exec_halted i hs).symm.trans h)
    exact .inl rfl

/-- A word presented, unless a cell arithmetic word, keeps the cell without a value or at 0 or 1, and
the host's further actions as they are. -/
theorem present_cellBoolean {w : CommandWord} {s t : State} (hs : s.cellBoolean)
    (notArith : isCellArithWord w = false) (h : present w s = .next t) :
    t.cellBoolean ∧ t.host = s.host := by
  obtain ⟨-, e⟩ | ⟨-, -, e⟩ | ⟨-, i, hi, e⟩ := present_cases w s <;> rw [e] at h
  · cases h
    exact ⟨hs, rfl⟩
  · cases h
    exact ⟨hs, rfl⟩
  · obtain ⟨rfl, -⟩ := decode_eq_some_iff.mp hi
    refine ⟨(cellBoolean_iff t).mpr ?_, (ExecEffect.of_exec h).host_eq⟩
    obtain kept | written := exec_val_cases h notArith
    · exact kept ▸ (cellBoolean_iff s).mp hs
    · exact .inr written

theorem noCellArith_of_cons {a : HostAction} {rest : List HostAction}
    (h : noCellArith (a :: rest)) : noCellArith rest :=
  fun w hw => h w (List.mem_cons_of_mem a hw)

/-- The invariant of boolean use: what the cell holds, and that the host goes on using it so. -/
def BooleanUse (s : State) : Prop := s.cellBoolean ∧ noCellArith s.host

theorem step_keeps_booleanUse {s t : State} (hs : BooleanUse s) (h : step s = .next t) :
    BooleanUse t := by
  obtain ⟨cell, use⟩ := hs
  obtain ⟨-, e⟩ | ⟨rest, host, e⟩ | ⟨w, rest, host, e⟩ := step_cases s <;> rw [e] at h
  · cases h
    exact ⟨cell, use⟩
  · cases h
    rw [host] at use
    exact ⟨rfl, noCellArith_of_cons use⟩
  · rw [host] at use
    obtain ⟨kept, same⟩ :=
      present_cellBoolean (s := { s with host := rest }) cell (use w List.mem_cons_self) h
    exact ⟨kept, same.symm ▸ noCellArith_of_cons use⟩

/-- A truth value fits the smallest cell. -/
theorem toNat_lt_of_cellBoolean {s : State} {v : BitVec 16} (hs : s.cellBoolean)
    (hv : s.val = some v) : v.toNat < 2 ^ s.cellN.val := by
  have two_le : 2 ^ 1 ≤ 2 ^ s.cellN.val := Nat.pow_le_pow_right (by decide) s.cellN.pos
  rw [cellBoolean_iff, hv] at hs
  obtain hn | h0 | h1 := hs
  · cases hn
  · cases h0
    exact Nat.two_pow_pos _
  · cases h1
    exact two_le

/-- Settles O48: the invariant `BooleanUse` along the run, and a truth value fits CELL_N bits, so
that the padding is 0. -/
theorem booleanUseKeepsPaddingZero : Obligations.BooleanUseKeepsPaddingZero := by
  intro k s t cell use h
  obtain ⟨kept, -⟩ : BooleanUse t :=
    run_induction (fun _ _ => step_keeps_booleanUse) k ⟨cell, use⟩ h
  refine ⟨kept, fun v hv => ?_⟩
  have fits := toNat_lt_of_cellBoolean kept hv
  exact ⟨fits, fun i padding =>
    Nat.testBit_lt_two_pow (fits.trans_le (Nat.pow_le_pow_right (by decide) padding))⟩

end Machine
end Sys2Proof
end

section
/-!
PROOFS. The faults (60_exceptions.md R151 to R159): which command takes which fault, what a fault
writes, and the halted block that only reset leaves.
-/

namespace Sys2Proof.Machine

/-! ### The halted block -/

theorem step_command_halted {s : State} {w : CommandWord} {rest : List HostAction}
    (host : s.host = .command w :: rest) (halted : s.fault ≠ .noFault) :
    step s = .next { s with host := rest, res := 0x0000 } :=
  (step_command host).trans (present_halted w halted)

/-- A halted block ignores one command after the other (60_exceptions.md R153). -/
theorem run_commands_halted {w : CommandWord} {ws : List CommandWord} {rest : List HostAction}
    {s : State} (halted : s.fault ≠ .noFault) (host : s.host = (w :: ws).map .command ++ rest) :
    core.run (ws.length + 1) s = .next { s with host := rest, res := 0x0000 } := by
  induction ws generalizing w s with
  | nil => exact run_succ 0 (step_command_halted host halted)
  | cons w' ws ih =>
    have first := step_command_halted host halted
    exact (run_succ _ first).trans (ih halted rfl)

/-- Settles O50: the halt check of each command, and an induction on the words presented. -/
theorem haltedBlockIgnoresEveryCommand : Obligations.HaltedBlockIgnoresEveryCommand := by
  refine ⟨fun i s => exec_halted i, fun ws rest s halted nonempty host => ?_⟩
  obtain ⟨w, ws, rfl⟩ := List.exists_cons_of_ne_nil nonempty
  exact run_commands_halted halted host

/-- Settles O16: of the three things a step can be, doing nothing and presenting a command to a
halted block leave FAULT and FCMD alone. -/
theorem onlyResetLeavesAFault : Obligations.OnlyResetLeavesAFault := by
  intro s t halted h changed
  obtain ⟨-, e⟩ | ⟨rest, host, e⟩ | ⟨w, rest, host, -⟩ := step_cases s
  · obtain rfl := Host.Outcome.next.inj (e.symm.trans h)
    simp at changed
  · exact ⟨rest, host, Host.Outcome.next.inj (h.symm.trans e)⟩
  · obtain rfl := Host.Outcome.next.inj ((step_command_halted host halted).symm.trans h)
    simp at changed

/-! ### Fault entry -/

/-- A word that takes a fault records itself and has no other effect (60_exceptions.md R152). -/
theorem present_eq_raise {w : CommandWord} {s t : State} (running : s.fault = .noFault)
    (h : present w s = .next t) (faulted : t.fault ≠ .noFault) : t = raise t.fault w s := by
  obtain ⟨halted, -⟩ | ⟨-, -, e⟩ | ⟨-, i, hi, e⟩ := present_cases w s
  · exact absurd running halted
  · obtain rfl := Host.Outcome.next.inj (e.symm.trans h)
    rfl
  · obtain ⟨rfl, -⟩ := decode_eq_some_iff.mp hi
    cases ExecEffect.of_exec (e.symm.trans h) with
    | result | track | write => exact absurd running faulted
    | fault => rfl

/-- Settles O51: the step takes the word off the port, and then `present_eq_raise`. -/
theorem faultEntryIsPrecise : Obligations.FaultEntryIsPrecise := by
  intro s t w rest host running h faulted
  have presented := (step_command host).symm.trans h
  exact present_eq_raise (s := { s with host := rest }) running presented faulted

/-! ### The causes of a fault -/

/-- The operand of a legal format C command is below `2^CELL_W` (30_encoding.md R42). -/
theorem operand_lt_of_wellFormed {i : Instr} {n : CellN} (legal : i.wellFormed n = true)
    (format : ∀ n, i.wellFormed n = operandFits n i.imm) : i.imm.toNat < 2 ^ n.width :=
  of_decide_eq_true ((format n).symm.trans legal)

/-- CELL.GET and the arithmetic commands need a value in the cell (60_exceptions.md R155), whatever
their operand is, so a zero divisor comes after it (R158). -/
theorem exec_unwritten {i : Instr} {s : State} (running : s.fault = .noFault) (hv : s.val = none)
    (legal : i.wellFormed s.cellN = true) (unit : i.unit = 0x4) (fn : i.fn ≠ 0x0) :
    exec i s = .next (raise .cellUnwritten (encode i) s) := by
  cases exec_running i running with
  | result _ notCell => exact absurd unit notCell
  | update _ hi | axisChange hi => simp [hi, Instr.unit] at unit
  | setBool _ hi => simp [hi, Instr.fn] at fn
  | get _ e => rw [e, readCell_unwritten _ _ hv]
  | arith f _ _ _ format e | divide f _ _ format e =>
    have fits := operand_lt_of_wellFormed legal format
    exact e.trans (congrArg Host.Outcome.next (cellOperation_unwritten _ _ _ running hv fits))

/-- CELL.DIV and CELL.MOD by 0 of a written cell (60_exceptions.md R156). -/
theorem exec_zeroDivisor {i : Instr} {s : State} {v : BitVec 16} (running : s.fault = .noFault)
    (hv : s.val = some v) (unit : i.unit = 0x4) (fn : i.fn = 0x5 ∨ i.fn = 0x6) (zero : i.imm = 0) :
    exec i s = .next (raise .cellDivideByZero (encode i) s) := by
  cases exec_running i running with
  | result _ notCell => exact absurd unit notCell
  | update _ hi | axisChange hi => simp [hi, Instr.unit] at unit
  | setBool _ hi | get hi => simp [hi, Instr.fn] at fn
  | arith _ _ _ plain => exact absurd fn (not_or.mpr plain)
  | divide f _ _ _ e => rw [e, zero, cellDivide_zero _ _ running hv]

/-- A legal command that meets neither cause completes without a fault (60_exceptions.md R158). -/
theorem exec_without_fault {i : Instr} {s : State} (running : s.fault = .noFault)
    (legal : i.wellFormed s.cellN = true)
    (written : i.unit = 0x4 → i.fn ≠ 0x0 → s.val ≠ none)
    (divisor : i.unit = 0x4 → i.fn = 0x5 ∨ i.fn = 0x6 → i.imm ≠ 0) :
    ∃ t, exec i s = .next t ∧ t.fault = s.fault ∧ t.fcmd = s.fcmd := by
  cases exec_running i running with
  | result _ _ _ e | setBool _ _ e => exact ⟨_, e, rfl, rfl⟩
  | update _ _ e => exact ⟨_, e.trans (congrArg Host.Outcome.next (updateTracker_eq _ s)), rfl, rfl⟩
  | axisChange _ e =>
    obtain ⟨-, l⟩ | ⟨-, l⟩ := latchAxis_cases s
    · exact ⟨_, e.trans (congrArg Host.Outcome.next l), rfl, rfl⟩
    · exact ⟨_, e.trans (congrArg Host.Outcome.next l), rfl, rfl⟩
  | get hi e =>
    obtain ⟨v, hv⟩ := Option.ne_none_iff_exists'.mp (written (hi ▸ rfl) (by simp [hi, Instr.fn]))
    have read := readCell_value (encode i) finish hv
    exact ⟨_, e.trans (congrArg Host.Outcome.next read), rfl, rfl⟩
  | arith f unit fn _ format e =>
    obtain ⟨v, hv⟩ := Option.ne_none_iff_exists'.mp (written unit (by bv_omega))
    have fits := operand_lt_of_wellFormed legal format
    have writes := cellOperation_value (encode i) i.imm (writeArith f i.imm) running hv fits
    exact ⟨_, e.trans (congrArg Host.Outcome.next writes), rfl, rfl⟩
  | divide f unit fn format e =>
    obtain ⟨v, hv⟩ := Option.ne_none_iff_exists'.mp (written unit (by bv_omega))
    have fits := operand_lt_of_wellFormed legal format
    have writes : cellDivide (encode i) i.imm f s = writeArith f i.imm v s :=
      (cellOperation_value _ _ _ running hv fits).trans (if_neg (divisor unit fn))
    exact ⟨_, e.trans (congrArg Host.Outcome.next writes), rfl, rfl⟩

/-- Settles O45: CELL.GET and the ten arithmetic commands are legal commands of CELL, and none of
them is CELL.SETB. -/
theorem unwrittenCellFaults : Obligations.UnwrittenCellFaults := by
  intro s running hv
  refine ⟨exec_unwritten running hv rfl rfl (by decide), fun y fits i arith => ?_⟩
  have legal : operandFits s.cellN y = true := decide_eq_true fits
  obtain rfl | rfl | rfl | rfl | rfl | rfl | rfl | rfl | rfl | rfl := arith
  all_goals exact exec_unwritten running hv legal rfl (by simp [Instr.fn])

/-! ### The order of the causes -/

theorem code_eq_zero_iff (c : FaultCode) : c.code = 0 ↔ c = .noFault := by
  cases c <;> decide

theorem exec_completes (i : Instr) (s : State) : ∃ t, exec i s = .next t := by
  cases i <;> exact ⟨_, rfl⟩

theorem present_completes (w : CommandWord) (s : State) : ∃ t, present w s = .next t := by
  obtain ⟨-, e⟩ | ⟨-, -, e⟩ | ⟨-, i, -, e⟩ := present_cases w s
  · exact ⟨_, e⟩
  · exact ⟨_, e⟩
  · exact e ▸ exec_completes i s

/-- A legal word presented to a running block is the word of a legal command, which is executed. -/
theorem present_legalWord {w : CommandWord} {s : State} (running : s.fault = .noFault)
    (h : legalWord s.cellN w) :
    ∃ i, encode i = w ∧ i.wellFormed s.cellN = true ∧ present w s = exec i s := by
  obtain ⟨i, hi⟩ := decode_of_legalWord h
  obtain ⟨word, legal⟩ := decode_eq_some_iff.mp hi
  exact ⟨i, word, legal, present_legal running hi⟩

theorem present_unwritten {w : CommandWord} {s : State} (running : s.fault = .noFault)
    (h : legalWord s.cellN w) (unit : w.unit = 0x4) (fn : w.fn ≠ 0x0) (hv : s.val = none) :
    present w s = .next (raise .cellUnwritten w s) := by
  obtain ⟨i, rfl, legal, e⟩ := present_legalWord running h
  rw [unit_encode] at unit
  rw [fn_encode] at fn
  exact e.trans (exec_unwritten running hv legal unit fn)

theorem present_zeroDivisor {w : CommandWord} {s : State} (running : s.fault = .noFault)
    (h : legalWord s.cellN w) (unit : w.unit = 0x4) (fn : w.fn = 0x5 ∨ w.fn = 0x6)
    (zero : w.imm = 0) (hv : s.val ≠ none) :
    present w s = .next (raise .cellDivideByZero w s) := by
  obtain ⟨v, hv⟩ := Option.ne_none_iff_exists'.mp hv
  obtain ⟨i, rfl, -, e⟩ := present_legalWord running h
  rw [unit_encode] at unit
  rw [fn_encode] at fn
  rw [imm_encode] at zero
  exact e.trans (exec_zeroDivisor running hv unit fn zero)

theorem present_without_fault {w : CommandWord} {s : State} (running : s.fault = .noFault)
    (h : legalWord s.cellN w) (written : w.unit = 0x4 → w.fn ≠ 0x0 → s.val ≠ none)
    (divisor : w.unit = 0x4 → w.fn = 0x5 ∨ w.fn = 0x6 → w.imm ≠ 0) :
    ∃ t, present w s = .next t ∧ t.fault = s.fault ∧ t.fcmd = s.fcmd := by
  obtain ⟨i, rfl, legal, e⟩ := present_legalWord running h
  rw [unit_encode, fn_encode] at written divisor
  rw [imm_encode] at divisor
  exact e ▸ exec_without_fault running legal written divisor

/-- Settles O52: presenting a word has one end, and each clause names it. -/
theorem faultCausesAndPriority : Obligations.FaultCausesAndPriority := by
  intro s w rest host
  obtain ⟨t, ht⟩ := present_completes w { s with host := rest }
  have end_eq {u : State} (hu : present w { s with host := rest } = .next u) : t = u :=
    Host.Outcome.next.inj (ht.symm.trans hu)
  refine ⟨t, (step_command host).trans ht, fun code => ?_, fun code => ?_⟩
  · have halted : s.fault ≠ .noFault := mt (code_eq_zero_iff s.fault).mpr code
    obtain rfl := end_eq (present_halted w halted)
    exact ⟨rfl, rfl⟩
  have running : s.fault = .noFault := (code_eq_zero_iff s.fault).mp code
  refine ⟨fun illegal => ?_, fun legal unit fn hv => ?_, fun legal unit fn zero hv => ?_,
    fun legal written divisor => ?_⟩
  · obtain rfl := end_eq (present_illegal running (decode_eq_none_of_not_legalWord illegal))
    exact ⟨rfl, rfl⟩
  · obtain rfl := end_eq (present_unwritten running legal unit fn hv)
    exact ⟨rfl, rfl⟩
  · obtain rfl := end_eq (present_zeroDivisor running legal unit fn zero hv)
    exact ⟨rfl, rfl⟩
  · obtain ⟨u, hu, fault, fcmd⟩ :=
      present_without_fault (s := { s with host := rest }) running legal written divisor
    obtain rfl := end_eq hu
    exact ⟨fault ▸ code, fcmd⟩

end Sys2Proof.Machine
end

section
/-!
PROOFS. Reset and the absence of hazards (70_reset_and_hazards.md R170, R186): reset clears every
register, and every step completes with one of the host's actions taken.
-/

namespace Sys2Proof.Machine

/-- Settles O15: a step that takes reset applies it, and the reset state depends on `CELL_N` alone. -/
theorem resetFromEveryState : Obligations.ResetFromEveryState := by
  intro s rest host
  obtain ⟨idle, -⟩ | ⟨rest', host', e⟩ | ⟨w, rest', command, -⟩ := step_cases s
  · cases host.symm.trans idle
  · obtain ⟨-, rfl⟩ := List.cons.inj (host.symm.trans host')
    exact e
  · cases host.symm.trans command

/-- No word presented changes CELL_N or what the host does later. -/
theorem present_frame {w : CommandWord} {s t : State} (h : present w s = .next t) :
    t.host = s.host ∧ t.cellN = s.cellN := by
  obtain ⟨-, e⟩ | ⟨-, -, e⟩ | ⟨-, i, -, e⟩ := present_cases w s
  · obtain rfl := Host.Outcome.next.inj (e.symm.trans h)
    exact ⟨ignore_host s, ignore_cellN s⟩
  · obtain rfl := Host.Outcome.next.inj (e.symm.trans h)
    exact ⟨raise_host .illegalCommand w s, raise_cellN .illegalCommand w s⟩
  · have effect := ExecEffect.of_exec (e.symm.trans h)
    exact ⟨effect.host_eq, effect.cellN_eq⟩

/-- Every step completes, takes one of the host's actions if there is one, and keeps CELL_N. -/
theorem step_completes (s : State) :
    ∃ t, step s = .next t ∧ t.host = s.host.tail ∧ t.cellN = s.cellN := by
  obtain ⟨host, e⟩ | ⟨rest, host, e⟩ | ⟨w, rest, host, e⟩ := step_cases s
  · exact ⟨s, e, by simp [host], rfl⟩
  · exact ⟨_, e, by simp [host], rfl⟩
  · obtain ⟨t, ht⟩ := present_completes w { s with host := rest }
    obtain ⟨taken, build⟩ := present_frame ht
    exact ⟨t, e.trans ht, by simp [host, taken], build⟩

/-- Settles O13: an induction on the number of steps, each of which completes. -/
theorem everyCommandCompletes : Obligations.EveryCommandCompletes := by
  intro k
  induction k with
  | zero => exact fun s => ⟨s, rfl, rfl, rfl⟩
  | succ k ih =>
    intro s
    obtain ⟨u, first, taken, build⟩ := step_completes s
    obtain ⟨t, later, host, kept⟩ := ih u
    refine ⟨t, (run_succ k first).trans later, ?_, kept.trans build⟩
    rw [host, taken, List.drop_tail]

end Sys2Proof.Machine
end

section
/-!
PROOFS. The inferences that the spec marks as its own: the normalization and the snapshot units by
bits, the tracker's lines and keys, and the cell of one bit; and the words and lines that the spec
writes out.
-/

namespace Sys2Proof.Machine

/-! ### Values that agree under a mask -/

theorem getLsbD_eq_of_and_eq {x y m : Bitmask} {i : Nat} (h : x &&& m = y &&& m)
    (hm : m.getLsbD i = true) : x.getLsbD i = y.getLsbD i := by
  have bit := congrArg (BitVec.getLsbD · i) h
  simpa [hm] using bit

theorem xor_and (x y m : Bitmask) : (x ^^^ y) &&& m = (x &&& m) ^^^ (y &&& m) :=
  BitVec.eq_of_getLsbD_eq fun i _ => by
    simp only [BitVec.getLsbD_and, BitVec.getLsbD_xor, Bool.and_xor_distrib_right]

/-- The normalization under a mask: the masked bits, inverted (40_rawinput.md R61). -/
theorem normRaw_and (r m : Bitmask) : normRaw r &&& m = (r &&& m) ^^^ m := by
  rw [← xor_eq_normRaw, xor_and, BitVec.and_comm 0xFFFF m]
  exact congrArg _ BitVec.and_allOnes

/-- Agreement under a mask is agreement under every part of it. -/
theorem and_eq_and_of_subset {x y m k : Bitmask} (h : x &&& m = y &&& m) (part : m &&& k = k) :
    x &&& k = y &&& k := by
  rw [← part, ← BitVec.and_assoc, h, BitVec.and_assoc]

/-! ### Keys of one bit, and the empty key -/

theorem getLsbD_oneBit {i : Nat} (hi : i < 16) (j : Nat) :
    (0x0001#16 <<< i).getLsbD j = decide (i = j) := by
  have bit : (0x0001#16 <<< i).getLsbD j = (decide (i < 16) && decide (i = j)) :=
    BitVec.getLsbD_twoPow i j
  rw [bit, decide_eq_true hi, Bool.true_and]

theorem allSet_oneBit (x : Bitmask) {i : Nat} (hi : i < 16) :
    allSet x (0x0001#16 <<< i) = x.getLsbD i := by
  rw [Bool.eq_iff_iff, allSet_iff]
  simp only [getLsbD_oneBit hi, decide_eq_true_eq]
  exact ⟨fun h => h ⟨i, hi⟩ rfl, fun h j e => e ▸ h⟩

theorem noneSet_oneBit (x : Bitmask) {i : Nat} (hi : i < 16) :
    noneSet x (0x0001#16 <<< i) = !x.getLsbD i := by
  rw [Bool.eq_iff_iff, noneSet_iff, Bool.not_eq_true']
  simp only [getLsbD_oneBit hi, decide_eq_true_eq]
  exact ⟨fun h => h ⟨i, hi⟩ rfl, fun h j e => e ▸ h⟩

theorem Line.index_lt (ln : Line) : ln.index < 16 := by
  cases ln <;> decide

theorem allSet_flag (x : Bitmask) (ln : Line) : allSet x ln.flag = x.getLsbD ln.index :=
  allSet_oneBit x ln.index_lt

/-- True over no bits at all (93_implementation_defined.md U6, decision D23). -/
theorem allSet_emptyKey (x : Bitmask) : allSet x 0x0000 = true :=
  beq_iff_eq.mpr BitVec.and_zero

theorem noneSet_emptyKey (x : Bitmask) : noneSet x 0x0000 = true :=
  beq_iff_eq.mpr BitVec.and_zero

theorem allSet_of_and_eq {x y k : Bitmask} (h : x &&& k = y &&& k) : allSet x k = allSet y k := by
  rw [allSet, allSet, h]

theorem noneSet_of_and_eq {x y k : Bitmask} (h : x &&& k = y &&& k) :
    noneSet x k = noneSet y k := by
  rw [noneSet, noneSet, h]

theorem not_allSet_and_noneSet {x k : Bitmask} (nonempty : k ≠ 0x0000) :
    ¬ (allSet x k = true ∧ noneSet x k = true) := by
  rintro ⟨all, none⟩
  rw [allSet, beq_iff_eq] at all
  rw [noneSet, beq_iff_eq] at none
  exact nonempty (all.symm.trans none)

theorem allSet_zero {k : Bitmask} (nonempty : k ≠ 0x0000) : allSet 0x0000 k = false := by
  rw [allSet, beq_eq_false_iff_ne]
  exact fun h => nonempty (h.symm.trans BitVec.zero_and)


/-! ### The normalization and the snapshot units -/

/-- Settles O18: the normalization is a complement, bit by bit; under a mask it is the XOR with the
mask. -/
theorem normIsBitwiseInvolution : Obligations.NormIsBitwiseInvolution := by
  refine fun r => ⟨BitVec.not_not, fun i hi => ?_, fun clear => ?_, fun set => ?_⟩
  · simp [normRaw, hi]
  · rw [normRaw_and, clear]
    exact BitVec.zero_xor
  · rw [normRaw_and, set]
    exact BitVec.xor_self

theorem getLsbD_assignedMask_index (ln : Line) : assignedMask.getLsbD ln.index = true := by
  cases ln <;> decide

/-- A button test and an axis look at assigned bits only (41_snapshot.md R66, R92). -/
theorem getLsbD_index_of_and_eq {b b' : Bitmask} (h : b &&& assignedMask = b' &&& assignedMask)
    (ln : Line) : b.getLsbD ln.index = b'.getLsbD ln.index :=
  getLsbD_eq_of_and_eq h (getLsbD_assignedMask_index ln)

theorem testLine_of_and_eq {b b' : Bitmask} (h : b &&& assignedMask = b' &&& assignedMask)
    (ln : Line) (s : State) : testLine ln b s = testLine ln b' s := by
  rw [testLine, testLine, btn, btn, getLsbD_index_of_and_eq h]

theorem axis_of_and_eq {b b' : Bitmask} (h : b &&& assignedMask = b' &&& assignedMask)
    (p n : Line) : axis b p.index n.index = axis b' p.index n.index := by
  rw [axis, axis, getLsbD_index_of_and_eq h, getLsbD_index_of_and_eq h]

theorem axisX_of_and_eq {b b' : Bitmask} (h : b &&& assignedMask = b' &&& assignedMask)
    (s : State) : axisX b s = axisX b' s := by
  rw [axisX, axisX, axis_of_and_eq h]

theorem axisY_of_and_eq {b b' : Bitmask} (h : b &&& assignedMask = b' &&& assignedMask)
    (s : State) : axisY b s = axisY b' s := by
  rw [axisY, axisY, axis_of_and_eq h]

theorem normRaw_and_eq {r r' m : Bitmask} (h : r &&& m = r' &&& m) :
    normRaw r &&& m = normRaw r' &&& m := by
  rw [normRaw_and, normRaw_and, h]

/-- A command of the two units is one operation applied to its operand, and the operation does not
tell operands apart that agree on the assigned bits. -/
theorem operation_of_snapUnits (i : Instr) (unit : i.unit = 0x1 ∨ i.unit = 0x2) :
    ∃ op : Bitmask → Instr,
      (∀ b, decodeFields i.unit.toNat i.fn.toNat b = some (op b)) ∧
      ∀ b b' s, b &&& assignedMask = b' &&& assignedMask → exec (op b) s = exec (op b') s := by
  cases i with
  | snapA | snapB | snapSelect | snapStart | snapRight | snapLeft | snapUp | snapDown | snapR
  | snapL =>
    exact ⟨_, fun _ => rfl, fun _ _ s h => congrArg Host.Outcome.next (testLine_of_and_eq h _ s)⟩
  | snapAxisx =>
    exact ⟨_, fun _ => rfl, fun _ _ s h => congrArg Host.Outcome.next (axisX_of_and_eq h s)⟩
  | snapAxisy =>
    exact ⟨_, fun _ => rfl, fun _ _ s h => congrArg Host.Outcome.next (axisY_of_and_eq h s)⟩
  | snaprA | snaprB | snaprSelect | snaprStart | snaprRight | snaprLeft | snaprUp | snaprDown
  | snaprR | snaprL =>
    exact ⟨_, fun _ => rfl, fun _ _ s h =>
      congrArg Host.Outcome.next (testLine_of_and_eq (normRaw_and_eq h) _ s)⟩
  | snaprAxisx =>
    exact ⟨_, fun _ => rfl, fun _ _ s h =>
      congrArg Host.Outcome.next (axisX_of_and_eq (normRaw_and_eq h) s)⟩
  | snaprAxisy =>
    exact ⟨_, fun _ => rfl, fun _ _ s h =>
      congrArg Host.Outcome.next (axisY_of_and_eq (normRaw_and_eq h) s)⟩
  | _ => simp [Instr.unit] at unit

/-- Settles O25: the unit and the function fix the operation, and a command is its operation on its
own operand. -/
theorem snapUnitsIgnoreReservedBits : Obligations.SnapUnitsIgnoreReservedBits := by
  intro i j s unit sameUnit sameFn agree
  obtain ⟨op, selects, ignores⟩ := operation_of_snapUnits i unit
  have hi : op i.imm = i := Option.some.inj ((selects i.imm).symm.trans (decodeFields_of_instr i))
  have hj : op j.imm = j := by
    have selected := decodeFields_of_instr j
    rw [sameUnit, sameFn, selects] at selected
    exact Option.some.inj selected
  calc exec i s = exec (op i.imm) s := by rw [hi]
    _ = exec (op j.imm) s := ignores _ _ s agree
    _ = exec j s := by rw [hj]

/-! ### What the tracker shows after an update -/

/-- The registers that an update of a running block leaves (42_eventtracker.md R101). -/
theorem registers_after_trkUpdate {raw : Bitmask} {s t : State} (running : s.fault = .noFault)
    (h : exec (.trkUpdate raw) s = .next t) :
    t.current = normRaw raw ∧ t.diff = s.current ^^^ normRaw raw ∧ t.fault = .noFault := by
  rw [exec_trkUpdate_running raw running, updateTracker_eq] at h
  obtain rfl := Host.Outcome.next.inj h
  exact ⟨rfl, rfl, running⟩

theorem getLsbD_normRaw (raw : Bitmask) {i : Nat} (hi : i < 16) :
    (normRaw raw).getLsbD i = !raw.getLsbD i := by
  simp [normRaw, hi]

/-- Settles O27: the update of R101 leaves CURRENT at the normalized operand and DIFF at the change,
whose bit is that of CURRENT XOR the complement of the raw bit. -/
theorem currentFollowsTheRawValue : Obligations.CurrentFollowsTheRawValue := by
  intro raw s running
  obtain ⟨t, ht⟩ := exec_completes (.trkUpdate raw) s
  obtain ⟨current, diff, -⟩ := registers_after_trkUpdate running ht
  refine ⟨t, ht, current, current ▸ diff, fun i hi => ?_⟩
  rw [diff, BitVec.getLsbD_xor, getLsbD_normRaw raw hi]
  cases s.current.getLsbD i <;> cases raw.getLsbD i <;> decide

section Queries

variable {s : State} (k : Bitmask) (running : s.fault = .noFault)
include running

theorem answerQuery_running (answer : Bitmask → Bitmask → Bool) :
    answerQuery answer s =
      { s with res := if answer s.current s.diff then 0x0001 else 0x0000 } :=
  whenRunning_running _ running

theorem exec_trkPressed_running : exec (.trkPressed k) s =
    .next { s with res := if allSet s.current k then 0x0001 else 0x0000 } :=
  congrArg Host.Outcome.next (answerQuery_running running fun cur _ => allSet cur k)

theorem exec_trkReleased_running : exec (.trkReleased k) s =
    .next { s with res := if noneSet s.current k then 0x0001 else 0x0000 } :=
  congrArg Host.Outcome.next (answerQuery_running running fun cur _ => noneSet cur k)

theorem exec_trkDown_running : exec (.trkDown k) s =
    .next { s with
      res := if (allSet s.diff k && allSet s.current k) then 0x0001 else 0x0000 } :=
  congrArg Host.Outcome.next (answerQuery_running running fun cur d => allSet d k && allSet cur k)

theorem exec_trkUp_running : exec (.trkUp k) s =
    .next { s with
      res := if (allSet s.diff k && noneSet s.current k) then 0x0001 else 0x0000 } :=
  congrArg Host.Outcome.next (answerQuery_running running fun cur d => allSet d k && noneSet cur k)

/-- No direction changed (42_eventtracker.md R106). -/
theorem exec_trkAxchg_unchanged (unchanged : s.diff &&& dpadMask = 0x0000) :
    exec .trkAxchg s = .next { s with res := 0x0000 } := by
  obtain ⟨-, e⟩ | ⟨changed, -⟩ := latchAxis_cases s
  · exact (exec_trkAxchg_running running).trans (congrArg _ e)
  · exact absurd unchanged changed

/-- Some direction changed (42_eventtracker.md R106). -/
theorem exec_trkAxchg_changed (changed : s.diff &&& dpadMask ≠ 0x0000) :
    exec .trkAxchg s =
      .next { s with axmask := some (s.current.extractLsb' 4 4), res := 0x0001 } := by
  obtain ⟨unchanged, -⟩ | ⟨-, e⟩ := latchAxis_cases s
  · exact absurd unchanged changed
  · rw [exec_trkAxchg_running running, e, setWidth_shiftRight_four]

end Queries

/-- Settles O30: an empty key has no bit that could be clear or set. -/
theorem emptyKeyAnswersTrue : Obligations.EmptyKeyAnswersTrue := by
  intro s running
  rw [exec_trkPressed_running _ running, exec_trkReleased_running _ running,
    exec_trkDown_running _ running, exec_trkUp_running _ running, allSet_emptyKey, allSet_emptyKey,
    noneSet_emptyKey]
  exact ⟨rfl, rfl, rfl, rfl⟩

/-- Settles O33: the edge queries are the level queries with one condition more; no bit is set and
clear; and a one-bit key reads its bit. -/
theorem queryRelations : Obligations.QueryRelations := by
  intro s k running
  refine ⟨_, _, _, _, exec_trkPressed_running k running, exec_trkReleased_running k running,
    exec_trkDown_running k running, exec_trkUp_running k running, ?_, ?_, ?_, ?_⟩
  · exact fun down => (Bool.and_eq_true_iff.mp down).2
  · exact fun up => (Bool.and_eq_true_iff.mp up).2
  · intro nonempty
    have separate := not_allSet_and_noneSet (x := s.current) nonempty
    exact ⟨fun ⟨down, up⟩ => separate
      ⟨(Bool.and_eq_true_iff.mp down).2, (Bool.and_eq_true_iff.mp up).2⟩, separate⟩
  · rintro i hi rfl
    rw [allSet_oneBit _ hi, noneSet_oneBit _ hi, Bool.not_not]

/-- Settles O34: each query of a one-bit key, written with the bits it reads. -/
theorem oneBitKeysReadDiff : Obligations.OneBitKeysReadDiff := by
  intro s i running hi
  rw [exec_trkDown_running _ running, exec_trkUp_running _ running,
    exec_trkPressed_running _ running, allSet_oneBit _ hi, allSet_oneBit _ hi,
    noneSet_oneBit _ hi]
  refine ⟨_, _, rfl, rfl, rfl, fun changed => ?_, fun unchanged => ?_⟩
  · simp [changed]
  · simp [unchanged]

/-- Settles O35: the second update finds CURRENT at its own value, so DIFF is 0, in which no bit of
a non-empty key and no direction is set. -/
theorem repeatedUpdateHasNoEdge : Obligations.RepeatedUpdateHasNoEdge := by
  intro raw k s t t' u running running' first same second
  obtain ⟨current, -, -⟩ := registers_after_trkUpdate running first
  obtain ⟨current', diff', running''⟩ := registers_after_trkUpdate running' second
  have unchanged : u.diff = 0x0000 := by
    rw [diff', same, current]
    exact BitVec.xor_self
  refine ⟨unchanged, current'.trans current.symm, fun nonempty => ⟨?_, ?_⟩, ?_⟩
  · rw [exec_trkDown_running k running'', unchanged, allSet_zero nonempty]
    rfl
  · rw [exec_trkUp_running k running'', unchanged, allSet_zero nonempty]
    rfl
  · exact exec_trkAxchg_unchanged running'' (by rw [unchanged]; exact BitVec.zero_and)

/-- Settles O36: from CURRENT 0 the change is the new value itself, so DOWN reads the same bit
twice. -/
theorem firstUpdateShowsHeldLinesAsEdges : Obligations.FirstUpdateShowsHeldLinesAsEdges := by
  intro n raw
  obtain ⟨t, ht⟩ := exec_completes (.trkUpdate raw) (State.resetFor n)
  obtain ⟨current, diff, running⟩ := registers_after_trkUpdate (resetFor_fault n) ht
  rw [resetFor_current] at diff
  have edges : t.diff = normRaw raw := diff.trans BitVec.zero_xor
  refine ⟨t, ht, current, edges, fun ln => ?_, fun held => ?_⟩
  · rw [exec_trkDown_running _ running, current, edges, Bool.and_self, allSet_flag,
      getLsbD_normRaw raw ln.index_lt]
    cases raw.getLsbD ln.index <;> rfl
  · rw [exec_trkAxchg_changed running (edges ▸ held), current]
    rfl

/-- Each key query answers by CURRENT and DIFF under its key alone (42_eventtracker.md R108). -/
theorem exec_keyQuery_answer {k : Bitmask} {i : Instr}
    (hi : i = .trkPressed k ∨ i = .trkReleased k ∨ i = .trkDown k ∨ i = .trkUp k) :
    ∃ answer : Bitmask → Bitmask → Bool, (∀ s, exec i s = .next (answerQuery answer s)) ∧
      ∀ c c' d d', c &&& k = c' &&& k → d &&& k = d' &&& k → answer c d = answer c' d' := by
  obtain rfl | rfl | rfl | rfl := hi <;>
    refine ⟨_, fun _ => rfl, fun c c' d d' hc hd => ?_⟩
  · exact allSet_of_and_eq hc
  · exact noneSet_of_and_eq hc
  · exact congrArg₂ and (allSet_of_and_eq hd) (allSet_of_and_eq hc)
  · exact congrArg₂ and (allSet_of_and_eq hd) (noneSet_of_and_eq hc)

/-- Settles O37: the update is an XOR, which works bit by bit; a query sees its key alone. -/
theorem trackerLinesAreIndependent : Obligations.TrackerLinesAreIndependent := by
  refine ⟨fun s t r r' i hi running running' cur raw => ?_,
    fun s t k running running' cur d i hi => ?_⟩
  · rw [exec_trkUpdate_running r running, exec_trkUpdate_running r' running', updateTracker_eq,
      updateTracker_eq]
    have norm : (normRaw r).getLsbD i = (normRaw r').getLsbD i := by
      rw [getLsbD_normRaw r hi, getLsbD_normRaw r' hi, raw]
    exact ⟨_, _, rfl, rfl, norm, by rw [BitVec.getLsbD_xor, BitVec.getLsbD_xor, cur, norm]⟩
  · obtain ⟨answer, query, keyed⟩ := exec_keyQuery_answer hi
    rw [query, query, answerQuery_running running, answerQuery_running running',
      keyed _ _ _ _ cur d]
    exact ⟨_, rfl, rfl⟩

/-! ### The cell of one bit -/

theorem width_of_val_eq_one {n : CellN} (h : n.val = 1) : n.width = 1 := if_pos h.le

theorem eq_zero_or_one_of_le_one {v : BitVec 16} (h : v ≤ 1) : v = 0 ∨ v = 1 :=
  eq_zero_or_one_of_toNat_le_one h

/-- The rule of a cell command in a one-bit cell: what it writes is known from the cell's two values
(43_packedbitcell.md R137). -/
theorem CellRule.exec_oneBit {w : CommandWord} {i : Instr} {y : Bitmask} {ok : Prop}
    {result : Nat → BitVec 16 → BitVec 16} {s : State} {v : BitVec 16}
    (written : BitVec 16 → BitVec 16) (rule : CellRule w i y ok result) (hy : y ≤ 1) (hok : ok)
    (one : s.cellN.val = 1) (running : s.fault = .noFault) (hv : s.val = some v) (bit : v ≤ 1)
    (clear : result 1 0 = written 0) (set : result 1 1 = written 1) :
    exec i s = .next { s with val := some (written v), res := 0x0000 } := by
  obtain ⟨-, -, completes, -⟩ := rule
  have width := width_of_val_eq_one one
  have fits {x : BitVec 16} (hx : x ≤ 1) : x.toNat < 2 ^ s.cellN.width := by
    rw [width]
    exact Nat.lt_succ_of_le hx
  have value : result 1 v = written v := by
    obtain rfl | rfl := eq_zero_or_one_of_le_one bit
    · exact clear
    · exact set
  rw [completes s v running hv (fits bit) (fits hy) hok, width, value]

/-- A product of two bits is their AND. -/
theorem mul_bit_eq_and {v y : BitVec 16} (hv : v ≤ 1) (hy : y ≤ 1) :
    BitVec.ofNat 16 (v.toNat * y.toNat % 2 ^ 1) = v &&& y := by
  obtain rfl | rfl := eq_zero_or_one_of_le_one hv <;>
    obtain rfl | rfl := eq_zero_or_one_of_le_one hy <;> rfl

/-- Settles O47: the rules of the cell commands at width 1; the operand 2 is illegal there. -/
theorem oneBitCellLaws : Obligations.OneBitCellLaws := by
  intro s v one running hv bit
  obtain ⟨add, sub, -⟩ := cellAddSubMulWrap 1
  obtain ⟨div, mod⟩ := cellDivModFloorOrFault.1 1
  obtain ⟨shl, shr⟩ := cellShiftsAreLogical 1
  obtain ⟨-, -, xor⟩ := cellBitwiseOperations 1
  obtain ⟨⟨-, illegal, -⟩, -⟩ := cellAddSubMulWrap 2
  have le : (1 : Bitmask) ≤ 1 := BitVec.le_refl 1
  have nonzero : (1 : Bitmask) ≠ 0 := by decide
  refine ⟨add.exec_oneBit (1 - ·) le trivial one running hv bit rfl rfl,
    sub.exec_oneBit (1 - ·) le trivial one running hv bit rfl rfl,
    xor.exec_oneBit (1 - ·) le trivial one running hv bit rfl rfl, fun y hy => ⟨?_, ?_⟩,
    shl.exec_oneBit (fun _ => 0) le trivial one running hv bit rfl rfl,
    shr.exec_oneBit (fun _ => 0) le trivial one running hv bit rfl rfl,
    mod.exec_oneBit (fun _ => 0) le nonzero one running hv bit rfl rfl, ?_, illegal s.cellN ?_⟩
  · obtain ⟨-, -, mul⟩ := cellAddSubMulWrap y
    exact mul.exec_oneBit (· &&& y) hy trivial one running hv bit
      (mul_bit_eq_and (v := 0) (by decide) hy) (mul_bit_eq_and (v := 1) le hy)
  · obtain ⟨and, -, -⟩ := cellBitwiseOperations y
    exact and.exec_oneBit (· &&& y) hy trivial one running hv bit rfl rfl
  · rw [div.exec_oneBit id le nonzero one running hv bit rfl rfl, id, ← hv]
  · rw [width_of_val_eq_one one]
    exact le_rfl

/-! ### Words and lines that the spec writes out -/

/-- Settles O10: each legal word is the word of its command, whose operand is legal at width 4; the
others have no row, or an operand that their format excludes. -/
theorem specWordsDecode : Obligations.SpecWordsDecode := by
  rintro ⟨_, pos, le⟩ rfl
  have legal {w : CommandWord} {i : Instr} (word : encode i = w)
      (fits : i.wellFormed ⟨3, pos, le⟩ = true) : decode ⟨3, pos, le⟩ w = some i :=
    decode_eq_some_iff.mpr ⟨word, fits⟩
  exact ⟨legal rfl rfl, legal rfl rfl, legal rfl rfl, legal rfl rfl, legal rfl rfl, legal rfl rfl,
    legal rfl rfl, legal rfl rfl, legal rfl rfl, legal rfl rfl, legal rfl rfl,
    rfl, rfl, rfl, rfl, rfl, rfl⟩

/-- The low 24 bits of a number are the word. -/
theorem withFetchWord_eq (s : State) (w : Nat) :
    s.withFetchWord 24 w = presentNext (BitVec.ofNat 24 w) s := by
  have low : BitVec.ofNat 24 (w % 2 ^ 24) = BitVec.ofNat 24 w :=
    BitVec.eq_of_toNat_eq (Nat.mod_mod w (2 ^ 24))
  rw [State.withFetchWord, low]

/-- Settles O12: the step takes the word off again and presents it to the state as it was. -/
theorem fetchWordIsTheNextCommand : Obligations.FetchWordIsTheNextCommand := by
  intro s w i running decoded
  rw [withFetchWord_eq, step_command (presentNext_host _ s)]
  exact present_legal running decoded

/-- Settles O57: the assembler computes on each line as it stands. -/
theorem assemblerReadsSpecLines : Obligations.AssemblerReadsSpecLines := by
  and_intros <;> decide

end Sys2Proof.Machine
end

section
/-!
PROOFS. The reserved bits (70_reset_and_hazards.md R181): two runs that differ in nothing else give
the host the same results.
-/

namespace Sys2Proof.Machine

/-! ### States that differ in reserved bits, and effects that do not see the difference -/

/-- The state with other tracker registers and another future of the host; two states that
`sameButReserved` relates differ in no more than these. -/
def replaceTracker (c d : Bitmask) (h : List HostAction) (s : State) : State :=
  { s with current := c, diff := d, host := h }

@[simp] theorem replaceTracker_cellN (c d : Bitmask) (h : List HostAction) (s : State) :
    (replaceTracker c d h s).cellN = s.cellN := rfl

@[simp] theorem replaceTracker_val (c d : Bitmask) (h : List HostAction) (s : State) :
    (replaceTracker c d h s).val = s.val := rfl

@[simp] theorem replaceTracker_fault (c d : Bitmask) (h : List HostAction) (s : State) :
    (replaceTracker c d h s).fault = s.fault := rfl

theorem sameButReserved_iff {s t : State} : sameButReserved s t ↔ ∃ c d h,
    t = replaceTracker c d h s ∧ s.current &&& assignedMask = c &&& assignedMask ∧
      s.diff &&& assignedMask = d &&& assignedMask := by
  constructor
  · rintro ⟨cur, d, rest⟩
    refine ⟨t.current, t.diff, t.host, ?_, cur, d⟩
    simp only [State.mk.injEq] at rest
    obtain ⟨cellN, -, -, axmask, val, fault, fcmd, res, -⟩ := rest
    simp only [replaceTracker, cellN, axmask, val, fault, fcmd, res]
  · rintro ⟨c, d, h, rfl, cur, diff⟩
    exact ⟨cur, diff, rfl⟩

/-- An effect that neither reads nor writes CURRENT, DIFF or the host's actions. -/
def IgnoresTracker (e : State → State) : Prop :=
  ∀ c d h s, e (replaceTracker c d h s) = replaceTracker c d h (e s)

namespace IgnoresTracker

theorem finish (r : Bitmask) : IgnoresTracker (finish r) := fun _ _ _ _ => rfl

theorem finish_writeVal (r : Bitmask) (v : BitVec 16) :
    IgnoresTracker fun s => Machine.finish r (writeVal v s) := fun _ _ _ _ => rfl

theorem finish_writeAxmask (r : Bitmask) (m : AxisMask) :
    IgnoresTracker fun s => Machine.finish r (writeAxmask m s) := fun _ _ _ _ => rfl

theorem raise (c : FaultCode) (w : CommandWord) : IgnoresTracker (raise c w) :=
  fun _ _ _ _ => rfl

theorem writeArith (f : Nat → Nat → Int) (y : Bitmask) (v : BitVec 16) :
    IgnoresTracker (writeArith f y v) := fun _ _ _ _ => rfl

theorem whenRunning {e : State → State} (he : IgnoresTracker e) :
    IgnoresTracker (whenRunning e) := by
  intro c d h s
  by_cases running : s.fault = .noFault
  · rw [whenRunning_running e running, whenRunning_running e (by simpa using running), he]
  · rw [whenRunning_halted e running, whenRunning_halted e (by simpa using running)]
    rfl

theorem readCell {use : BitVec 16 → State → State} (w : CommandWord)
    (huse : ∀ v, IgnoresTracker (use v)) : IgnoresTracker (readCell w use) := by
  intro c d h s
  cases hv : s.val with
  | none =>
    rw [readCell_unwritten w use hv, readCell_unwritten w use (by simpa using hv)]
    rfl
  | some v => rw [readCell_value w use hv, readCell_value w use (by simpa using hv), huse]

theorem cellOperation {use : BitVec 16 → State → State} (w : CommandWord) (y : Bitmask)
    (huse : ∀ v, IgnoresTracker (use v)) : IgnoresTracker (cellOperation w y use) := by
  refine whenRunning fun c d h s => ?_
  rw [replaceTracker_cellN]
  split_ifs
  · exact readCell w huse c d h s
  · rfl

/-- What an effect cannot read it cannot change: it commutes with writing back what was there. -/
theorem current_eq {e : State → State} (he : IgnoresTracker e) (s : State) :
    (e s).current = s.current := by
  calc (e s).current = (replaceTracker s.current s.diff s.host (e s)).current :=
        congrArg State.current (he s.current s.diff s.host s)
    _ = s.current := rfl

theorem diff_eq {e : State → State} (he : IgnoresTracker e) (s : State) :
    (e s).diff = s.diff := by
  calc (e s).diff = (replaceTracker s.current s.diff s.host (e s)).diff :=
        congrArg State.diff (he s.current s.diff s.host s)
    _ = s.diff := rfl

theorem sameButReserved {e : State → State} (he : IgnoresTracker e) {s t : State}
    (h : sameButReserved s t) : sameButReserved (e s) (e t) := by
  obtain ⟨c, d, host, rfl, cur, diff⟩ := sameButReserved_iff.mp h
  rw [← he.current_eq s] at cur
  rw [← he.diff_eq s] at diff
  exact sameButReserved_iff.mpr ⟨c, d, host, he c d host s, cur, diff⟩

end IgnoresTracker

/-- Outside TRK every command is such an effect (10_state.md sections 3 and 4). -/
theorem exec_ignoresTracker (i : Instr) (unit : i.unit ≠ 0x3) :
    ∃ e, IgnoresTracker e ∧ ∀ s, exec i s = .next (e s) := by
  cases i with
  | trkUpdate | trkPressed | trkReleased | trkDown | trkUp | trkAxchg =>
    exact absurd rfl unit
  | cellSetb => exact ⟨_, .whenRunning (.finish_writeVal _ _), fun _ => rfl⟩
  | cellGet => exact ⟨_, .whenRunning (.readCell _ .finish), fun _ => rfl⟩
  | cellDiv y | cellMod y =>
    refine ⟨_, .cellOperation _ y fun v c d h s => ?_, fun _ => rfl⟩
    split_ifs <;> rfl
  | cellAdd y | cellSub y | cellMul y | cellShl y | cellShr y | cellAnd y | cellOr y | cellXor y =>
    exact ⟨_, .cellOperation _ y (.writeArith _ _), fun _ => rfl⟩
  | _ => exact ⟨_, .whenRunning (.finish _), fun _ => rfl⟩

/-- The level that the axis-change query latches is that of the four directions. -/
theorem level_and_dpadMask (x : Bitmask) :
    ((x &&& dpadMask) >>> 4).setWidth 4 = (x >>> 4).setWidth 4 := by
  rw [BitVec.ushiftRight_and_distrib, BitVec.setWidth_and]
  exact BitVec.and_allOnes

theorem level_of_and_eq {x y : Bitmask} (h : x &&& dpadMask = y &&& dpadMask) :
    (x >>> 4).setWidth 4 = (y >>> 4).setWidth 4 := by
  rw [← level_and_dpadMask x, h, level_and_dpadMask]

section Related

variable {s t : State} (h : sameButReserved s t)
include h

theorem sameButReserved.cellN_eq : t.cellN = s.cellN := by
  obtain ⟨_, _, _, rfl, -⟩ := sameButReserved_iff.mp h
  rfl

theorem sameButReserved.fault_eq : t.fault = s.fault := by
  obtain ⟨_, _, _, rfl, -⟩ := sameButReserved_iff.mp h
  rfl

theorem sameButReserved.applyReset : sameButReserved (applyReset s) (applyReset t) := by
  obtain ⟨_, _, _, rfl, -⟩ := sameButReserved_iff.mp h
  exact ⟨rfl, rfl, rfl⟩

theorem sameButReserved.ignore : sameButReserved (ignore s) (ignore t) :=
  (IgnoresTracker.finish 0x0000).sameButReserved h

theorem sameButReserved.whenRunning {e e' : State → State} (effect : sameButReserved (e s) (e' t)) :
    sameButReserved (whenRunning e s) (whenRunning e' t) := by
  by_cases running : s.fault = .noFault
  · rwa [whenRunning_running e running, whenRunning_running e' (h.fault_eq.trans running)]
  · rw [whenRunning_halted e running, whenRunning_halted e' (h.fault_eq ▸ running)]
    exact h.ignore

/-- Reserved raw bits reach reserved bits of CURRENT and DIFF only (42_eventtracker.md R108). -/
theorem sameButReserved.updateTracker {n n' : Bitmask}
    (agree : n &&& assignedMask = n' &&& assignedMask) :
    sameButReserved (updateTracker n s) (updateTracker n' t) := by
  obtain ⟨c, d, host, rfl, cur, -⟩ := sameButReserved_iff.mp h
  rw [updateTracker_eq, updateTracker_eq]
  refine sameButReserved_iff.mpr ⟨_, _, _, rfl, agree, ?_⟩
  rw [xor_and, xor_and, cur, agree]
  rfl

/-- A query answers by assigned bits only when its key has no other (93_implementation_defined.md
part 1). -/
theorem sameButReserved.answerQuery {answer : Bitmask → Bitmask → Bool} {k : Bitmask}
    (keyed : ∀ c c' d d', c &&& k = c' &&& k → d &&& k = d' &&& k → answer c d = answer c' d')
    (part : assignedMask &&& k = k) :
    sameButReserved (answerQuery answer s) (answerQuery answer t) := by
  have ⟨cur, diff, _⟩ := h
  refine sameButReserved.whenRunning h ?_
  rw [keyed _ _ _ _ (and_eq_and_of_subset cur part) (and_eq_and_of_subset diff part)]
  exact (IgnoresTracker.finish _).sameButReserved h

/-- The four directions are assigned bits, so the axis-change query sees no other. -/
theorem sameButReserved.latchAxis : sameButReserved (latchAxis s) (latchAxis t) := by
  have ⟨cur, diff, _⟩ := h
  have dpad : assignedMask &&& dpadMask = dpadMask := by decide
  have level := level_of_and_eq (and_eq_and_of_subset cur dpad)
  rw [Machine.latchAxis, Machine.latchAxis, and_eq_and_of_subset diff dpad, level]
  split_ifs
  · exact (IgnoresTracker.finish _).sameButReserved h
  · exact (IgnoresTracker.finish_writeAxmask _ _).sameButReserved h

end Related

/-! ### The two runs, step by step -/

/-- Two steps that both go on, to states that again agree but for reserved bits. -/
def SameNext (o o' : Host.Outcome State Fault Refusal) : Prop :=
  ∃ s' t', o = .next s' ∧ o' = .next t' ∧ sameButReserved s' t'

theorem exec_trkUpdate_sameNext {s t : State} {r r' : Bitmask} (h : sameButReserved s t)
    (agree : r &&& assignedMask = r' &&& assignedMask) :
    SameNext (exec (.trkUpdate r) s) (exec (.trkUpdate r') t) :=
  ⟨_, _, rfl, rfl, h.whenRunning (h.updateTracker (normRaw_and_eq agree))⟩

/-- A key without reserved bits has assigned bits only. -/
theorem assignedMask_and_of_reservedMask {k : Bitmask} (h : k &&& reservedMask = 0) :
    assignedMask &&& k = k := by
  calc assignedMask &&& k = normRaw reservedMask &&& k := rfl
    _ = (k &&& reservedMask) ^^^ k := by rw [normRaw_and, BitVec.and_comm]
    _ = k := by rw [h]; exact BitVec.zero_xor

theorem isKeyQueryWord_encode {k : Bitmask} {i : Instr}
    (hi : i = .trkPressed k ∨ i = .trkReleased k ∨ i = .trkDown k ∨ i = .trkUp k) :
    isKeyQueryWord (encode i) ∧ i.imm = k := by
  rw [isKeyQueryWord, unit_encode, fn_encode]
  obtain rfl | rfl | rfl | rfl := hi <;> exact ⟨by simp [Instr.unit, Instr.fn], rfl⟩

/-- One command in two such states, by its unit and, in TRK, by its kind. -/
theorem exec_sameNext {i : Instr} {s t : State} (h : sameButReserved s t)
    (key : isKeyQueryWord (encode i) → i.imm &&& reservedMask = 0) :
    SameNext (exec i s) (exec i t) := by
  by_cases unit : i.unit = 0x3
  · obtain ⟨raw, rfl⟩ | ⟨k, query⟩ | rfl := instr_cases_of_trk_unit unit
    · exact exec_trkUpdate_sameNext h rfl
    · obtain ⟨answer, e, keyed⟩ := exec_keyQuery_answer query
      obtain ⟨isQuery, rfl⟩ := isKeyQueryWord_encode query
      exact ⟨_, _, e s, e t,
        h.answerQuery keyed (assignedMask_and_of_reservedMask (key isQuery))⟩
    · exact ⟨_, _, rfl, rfl, h.whenRunning h.latchAxis⟩
  · obtain ⟨e, ignores, he⟩ := exec_ignoresTracker i unit
    exact ⟨_, _, he s, he t, ignores.sameButReserved h⟩

/-- One word presented in two such states. -/
theorem present_sameNext {w : CommandWord} {s t : State} (h : sameButReserved s t)
    (key : isKeyQueryWord w → w.imm &&& reservedMask = 0) :
    SameNext (present w s) (present w t) := by
  have fault := h.fault_eq
  have cellN := h.cellN_eq
  obtain ⟨halted, e⟩ | ⟨running, illegal, e⟩ | ⟨running, i, hi, e⟩ := present_cases w s
  · exact ⟨_, _, e, present_halted w (fault ▸ halted), h.ignore⟩
  · exact ⟨_, _, e, present_illegal (fault.trans running) (cellN ▸ illegal),
      (IgnoresTracker.raise _ w).sameButReserved h⟩
  · rw [e, present_legal (fault.trans running) (cellN ▸ hi)]
    obtain ⟨rfl, -⟩ := decode_eq_some_iff.mp hi
    rw [imm_encode] at key
    exact exec_sameNext h key

theorem decode_trkUpdate (n : CellN) (r : Bitmask) :
    decode n (wordOf 0x300000 r) = some (.trkUpdate r) :=
  decode_eq_some_iff.mpr ⟨encode_trkUpdate r, rfl⟩

/-- Two updates whose raw values differ in reserved bits, presented in two such states. -/
theorem present_trkUpdate_sameNext {r r' : Bitmask} {s t : State} (h : sameButReserved s t)
    (agree : r &&& assignedMask = r' &&& assignedMask) :
    SameNext (present (wordOf 0x300000 r) s) (present (wordOf 0x300000 r') t) := by
  by_cases running : s.fault = .noFault
  · rw [present_legal running (decode_trkUpdate _ r),
      present_legal (h.fault_eq.trans running) (decode_trkUpdate _ r')]
    exact exec_trkUpdate_sameNext h agree
  · exact ⟨_, _, present_halted _ running, present_halted _ (h.fault_eq ▸ running), h.ignore⟩

/-- The relation along the two runs: the states, and what the host will do in each. -/
def MatchedRuns (s t : State) : Prop :=
  sameButReserved s t ∧ List.Forall₂ SameButReservedRaw s.host t.host

theorem present_matchedRuns {w w' : CommandWord} {s t : State}
    (hosts : List.Forall₂ SameButReservedRaw s.host t.host)
    (next : SameNext (present w s) (present w' t)) :
    ∃ s' t', present w s = .next s' ∧ present w' t = .next t' ∧ MatchedRuns s' t' := by
  obtain ⟨s', t', hs, ht, same⟩ := next
  refine ⟨s', t', hs, ht, same, ?_⟩
  rwa [(present_frame hs).1, (present_frame ht).1]

/-- Every step of the one run is matched by the step of the other. -/
theorem step_matchedRuns {s t : State} (h : MatchedRuns s t) :
    ∃ s' t', step s = .next s' ∧ step t = .next t' ∧ MatchedRuns s' t' := by
  obtain ⟨same, hosts⟩ := h
  cases hs : s.host with
  | nil =>
    have ht : t.host = [] := List.forall₂_nil_left_iff.mp (hs ▸ hosts)
    exact ⟨s, t, step_idle hs, step_idle ht, same, hosts⟩
  | cons a rest =>
    rw [hs] at hosts
    obtain ⟨b, rest', action, later, ht⟩ := List.forall₂_cons_left_iff.mp hosts
    have taken : sameButReserved { s with host := rest } { t with host := rest' } := same
    cases action with
    | same _ key =>
      cases a with
      | reset =>
        exact ⟨_, _, resetFromEveryState s rest hs, resetFromEveryState t rest' ht,
          taken.applyReset, later⟩
      | command w =>
        rw [step_command hs, step_command ht]
        exact present_matchedRuns later (present_sameNext taken (key w rfl))
    | update r r' agree =>
      rw [step_command hs, step_command ht]
      exact present_matchedRuns later (present_trkUpdate_sameNext taken agree)

/-- Settles O38: an induction on the number of steps, each of which keeps the two runs matched. -/
theorem reservedBitsNeverReachTheHost : Obligations.ReservedBitsNeverReachTheHost := by
  intro k
  induction k with
  | zero => exact fun s t same hosts => ⟨s, t, rfl, rfl, same, hosts⟩
  | succ k ih =>
    intro s t same hosts
    obtain ⟨s₁, t₁, hs, ht, same₁, hosts₁⟩ := step_matchedRuns ⟨same, hosts⟩
    obtain ⟨s', t', runs, runt, matched⟩ := ih s₁ t₁ same₁ hosts₁
    exact ⟨s', t', (run_succ k hs).trans runs, (run_succ k ht).trans runt, matched⟩

end Sys2Proof.Machine
end
